-- ==== Sys2Proof/Word.lean ====
section
/-!
DEFINITION. The words of MMA8541-SEQ and the plain data they carry: bytes and addresses (20_memory R50),
the command, request and response words (30_encoding R80, R84, R85), the unpacked form of a request,
a response and a sample (R84, R85, R89), and the four kinds of step (10_state R40).
-/

namespace Sys2Proof

/-- One device register's content (20_memory R50). -/
abbrev Byte := BitVec 8

/-- A 7-bit device address (20_memory R52). -/
abbrev DevAddr := BitVec 7

/-- An 8-bit register address (20_memory R53). -/
abbrev RegAddr := BitVec 8

/-- The command word `w`: operand `g` in bit 2, opcode in bits 1:0 (30_encoding R80). -/
abbrev CmdWord := BitVec 3

/-- The packed transport request `q` (30_encoding R84). -/
abbrev ReqWord := BitVec 25

/-- The packed transport response `r` (30_encoding R85). -/
abbrev RspWord := BitVec 49

/-- A result numerator, two's complement (10_state R33, 44_unpack_scale R169). -/
abbrev Numerator := BitVec 34

/-- The four commands (30_encoding R81). -/
inductive Cmd where
  | init | rdtsrc | getacc | getori
deriving DecidableEq, Repr, Inhabited

/-- The three kinds of transaction (30_encoding R84); the code `0b11` is reserved and has no constructor. -/
inductive Kind where
  | rd | wr | rdblk
deriving DecidableEq, Repr, Inhabited

/-- The six bytes of a block read in the order received (30_encoding R89): `b0` X-high, `b1` X-low,
`b2` Y-high, `b3` Y-low, `b4` Z-high, `b5` Z-low. -/
structure Sample where
  b0 : Byte
  b1 : Byte
  b2 : Byte
  b3 : Byte
  b4 : Byte
  b5 : Byte
deriving DecidableEq, Repr, Inhabited

/-- A transport request `(kind, dev, reg, wdata)` (30_encoding R84). -/
structure Request where
  kind  : Kind
  dev   : DevAddr
  reg   : RegAddr
  wdata : Byte
deriving DecidableEq, Repr, Inhabited

/-- A transport response (30_encoding R85): the error, or the success of each kind of request. -/
inductive Response where
  | err
  | okByte (b : Byte)
  | okWrite
  | okBlock (s : Sample)
deriving DecidableEq, Repr, Inhabited

/-- The four kinds of step (10_state R40), as the environment's record names them: which agent moves next, and with what.
Log entry 1. -/
inductive Event where
  /-- The platform resets the block. -/
  | reset
  /-- The host presents a command word. -/
  | issue (w : CmdWord)
  /-- The block has its turn to issue a transaction. -/
  | txnIssue
  /-- The transport delivers a response word. -/
  | txnComplete (r : RspWord)
deriving DecidableEq, Repr, Inhabited

end Sys2Proof
end

