-- ==== Sys2Proof/Config.lean ====
section
/-!
DEFINITION. The configuration `CFG` (00_scope R7, R8; 20_memory R52 to R56), the constants the spec gives, and
the free values that a `Reset` step draws (10_state R41).
-/

namespace Sys2Proof

/-- `CFG`, fixed for the life of the block (00_scope R7). Every field is a parameter the spec leaves OPEN (R8).
`DEV_ADDR` is one of the two addresses (20_memory R52): `altStrap` says which, the primary by default. -/
structure Config where
  devAddrPrimary    : DevAddr
  devAddrAlt        : DevAddr
  altStrap          : Bool := false
  regOutXMsb        : RegAddr
  regFSetup         : RegAddr
  regWhoAmI         : RegAddr
  regXyzDataCfg     : RegAddr
  regPlStatus       : RegAddr
  regPlCfg          : RegAddr
  regTransientCfg   : RegAddr
  regTransientSrc   : RegAddr
  regTransientThs   : RegAddr
  regTransientCount : RegAddr
  regCtrl1          : RegAddr
  regCtrl2          : RegAddr
  regCtrl4          : RegAddr
  regCtrl5          : RegAddr
  bReset            : Byte
  vHires            : Byte
  vStandby          : Byte
  vTransCfg         : Byte
  vTransThs         : Byte
  vTransCount       : Byte
  vIntEn            : Byte
  vIntMap           : Byte
  vDataCfg          : Byte
  vActive           : Byte
  vPlEn             : Byte
  pollLimit         : Option Nat := none
deriving DecidableEq, Repr, Inhabited

/-- `DEV_ADDR`, the address every request carries (20_memory R52, 40_transport R104). -/
def Config.devAddr (c : Config) : DevAddr :=
  if c.altStrap then c.devAddrAlt else c.devAddrPrimary

/-- The constraints a configuration must meet (20_memory R54, R56; 00_scope R8 for `POLL_LIMIT`): the two device
addresses differ, the block read ends at or below `0xFF`, the reset mask is non-zero, a poll limit is positive. -/
def Config.wf (c : Config) : Bool :=
  decide (c.devAddrPrimary ≠ c.devAddrAlt) && decide (c.regOutXMsb.toNat ≤ 0xFA) && decide (c.bReset ≠ 0)
    && decide (c.pollLimit ≠ some 0)

/-- The nearest configuration that meets the constraints of `Config.wf`: it leaves one that meets them as it is,
so its values are exactly the configurations of this hardware (20_memory R54, R56). -/
def Config.lawful (c : Config) : Config :=
  { c with
    devAddrAlt := if c.devAddrAlt = c.devAddrPrimary then ~~~ c.devAddrPrimary else c.devAddrAlt
    regOutXMsb := if c.regOutXMsb.toNat ≤ 0xFA then c.regOutXMsb else 0xFA
    bReset     := if c.bReset = 0 then 1 else c.bReset
    pollLimit  := if c.pollLimit = some 0 then none else c.pollLimit }

/-- The configuration a block was built with, before the constraints: it has no value anyone can see
(00_scope R8, every OPEN row). Log entry 2. -/
opaque Config.built : Config

/-- The configuration the machine holds in `State.reset`: a lawful one, otherwise unknown, with the spec's two
stated defaults, the primary address and no poll limit (00_scope R8). DESIGN CHOICE, log entry 2. -/
def Config.atReset : Config :=
  { Config.built.lawful with altStrap := false, pollLimit := none }

/-! ## Constants the document gives (00_scope R8) -/

/-- `DEVICE_ID` (41_init R118). -/
def Config.deviceId : Byte := 0x1A

/-- `V_FIFO_OFF` (41_init R122). -/
def Config.vFifoOff : Byte := 0x00

/-- `V_LATCH` (43_acceleration R151). -/
def Config.vLatch : Byte := 0x00

/-- `M_ORIENT` (45_orientation R181). -/
def Config.mOrient : Byte := 0x07

/-- `HALF14` (44_unpack_scale R162). -/
def Config.half14 : Nat := 8191

/-- `MOD14` (44_unpack_scale R162). -/
def Config.mod14 : Nat := 16384

/-- `COUNTS_PER_G` (44_unpack_scale R166). -/
def Config.countsPerG : Nat := 2048

/-- `G_STD` is 9.80655 exactly: this over `gStdDen` (44_unpack_scale R167). -/
def Config.gStdNum : Nat := 980655

/-- The denominator of `G_STD` (44_unpack_scale R167). -/
def Config.gStdDen : Nat := 100000

/-! ## Free values: what a payload register holds after a `Reset` step (10_state R41). Log entry 4. -/

/-- An arbitrary byte for each draw. -/
opaque Config.freeByte : Nat → Byte

/-- An arbitrary sample for each draw. -/
opaque Config.freeSample : Nat → Sample

/-- An arbitrary numerator for each draw. -/
opaque Config.freeNumerator : Nat → Numerator

/-- An arbitrary flag for each draw. -/
opaque Config.freeFlag : Nat → Bool

/-! ## The free order of events. Log entry 1. -/

/-- An arbitrary event at each place: an infinite order of the environment's moves that nothing is known of. -/
opaque Config.freeEvent : Nat → Event

end Sys2Proof
end

