-- ==== Sys2Proof/Machine/State.lean ====
section
/-!
DEFINITION. The state of the machine: the tuple of 10_state R20, the ghost trace (R39), the configuration it was
built with (00_scope R7), and the model's own record of what the environment does next. It holds no memory: the device
register space is the chip's, and its bytes arrive as responses (20_memory R51, 10_state R35; log entry 9). The reasons a step may stop.
The state right after reset (10_state R41, 70_reset_and_hazards R215).
-/

namespace Sys2Proof.Machine

/-- The driver state (10_state R27). -/
inductive DState where
  | uninitialized | resetting | configured | active
deriving DecidableEq, Repr, Inhabited

/-- The result code of the last command ended (10_state R28, 60_exceptions R185). -/
inductive Status where
  | ok | deviceNotFound | transportError | protocolTimeout
deriving DecidableEq, Repr, Inhabited

/-- One transaction of the trace (10_state R39): its request, and its response once it has arrived. -/
structure TraceEntry where
  req  : Request
  resp : Option Response
deriving DecidableEq, Repr, Inhabited

/-- What follows when the schedule is used up. Plain data that stands for an infinite order of events (log entry 1). -/
inductive Thereafter where
  /-- These events, over and over, for ever; with none, only the block's own turns. -/
  | repeating (es : List Event)
  /-- The free sequence `Config.freeEvent` from a place on: an order that nothing is known of. -/
  | arbitrary (n : Nat)
deriving DecidableEq, Repr

/-- The state. The first sixteen fields are the registers of 10_state R20; `trace` is the ghost of R39; `cfg` is no
state of the block and no step changes it (00_scope R7); `schedule`, `thereafter` and `freeCount` are the model's own (log
entries 1 and 4). -/
structure State where
  /-- A command is in flight (R21). -/
  busy      : Bool
  /-- A command has ended and none was issued since (R22). -/
  done      : Bool
  /-- A request is outstanding (R23). -/
  inflight  : Bool
  /-- The command in flight or last ended (R24). -/
  cmd       : Cmd
  /-- The latched unit selector, true for g (R25). -/
  useG      : Bool
  /-- The micro-program counter (R26). -/
  pc        : BitVec 5
  /-- Poll reads that saw the reset bit set (R29); 0 while `POLL_LIMIT` is none (log entry 5). -/
  pollCount : Nat
  /-- The driver state (R27). -/
  dstate    : DState
  /-- The last result code (R28). -/
  status    : Status
  /-- The raw sample buffer (R30). -/
  sample    : Sample
  /-- The read-back of the primary control register (R31). -/
  diag      : Byte
  /-- The byte result of the status reads (R32). -/
  resByte   : Byte
  /-- The x numerator (R33). -/
  resX      : Numerator
  /-- The y numerator (R33). -/
  resY      : Numerator
  /-- The z numerator (R33). -/
  resZ      : Numerator
  /-- The unit tag of the three numerators, true for g (R34). -/
  unit      : Bool
  /-- The transactions issued since reset, oldest first (R39). -/
  trace     : List TraceEntry
  /-- The configuration the block was built with (00_scope R7). -/
  cfg       : Config
  /-- What the environment does next, and when the block has its turn (log entry 1). -/
  schedule  : List Event
  /-- What it does when the schedule is used up, without end (log entry 1). -/
  thereafter : Thereafter
  /-- The counter of the free values a `Reset` step draws (log entry 4). -/
  freeCount : Nat
deriving DecidableEq, Repr

/-- The machine has no fault: a failure of the device or the bus ends a command with a result code and is a next
state (60_exceptions R185), and a block that waits for ever is a state that does not change (70_reset_and_hazards R233). Log entry 10. -/
inductive Fault where
deriving DecidableEq, Repr

/-- Why a step has no meaning. -/
inductive Refusal where
  /-- An instruction without a meaning yet, raised by `exec` alone. Safe. -/
  | notModelled (mnemonic : String)
  /-- `pc` is 19 to 31 while a command is in flight: no micro-op stands there (30_encoding R88, U16 of
  93_implementation_defined). Raised when the block has its turn or a response arrives. No run from reset meets
  it. Safe. Log entry 11. -/
  | noMicroOp
  /-- A request word out of the sequence ROM that the decoder rejects (30_encoding R84: kind `0b11` is never
  generated). Raised when the block has its turn; no configuration makes such a word. Safe. Log entry 11. -/
  | reservedRequest
deriving DecidableEq, Repr

/-- The machine right after reset (10_state R20's table, 70_reset_and_hazards R215). The payload registers, whose
reset value the spec leaves unspecified, hold 0 (DESIGN CHOICE, log entry 3); the configuration is `Config.atReset`
(log entry 2); nobody has presented anything yet (log entry 1). -/
def State.reset : State where
  busy := false
  done := false
  inflight := false
  cmd := .init
  useG := false
  pc := 0
  pollCount := 0
  dstate := .uninitialized
  status := .ok
  sample := ⟨0, 0, 0, 0, 0, 0⟩
  diag := 0
  resByte := 0
  resX := 0
  resY := 0
  resZ := 0
  unit := false
  trace := []
  cfg := Config.atReset
  schedule := []
  thereafter := .repeating []
  freeCount := 0

end Sys2Proof.Machine
end

