-- ==== Sys2Proof/Machine/Flags.lean ====
section
/-!
DEFINITION. The tests and masks the micro-ops apply, and the numeric codes under which the host reads the flag
registers (10_state R27, R28; log entry 13).
-/

namespace Sys2Proof.Machine

/-- I1: all eight bits of the identity byte are compared (41_init R118). -/
def identityMatches (b : Byte) : Bool :=
  decide (b = Config.deviceId)

/-- I2P: only the bits `B_RESET` selects are tested (41_init R120). -/
def resetBitClear (c : Config) (b : Byte) : Bool :=
  decide (b &&& c.bReset = 0)

/-- I2P: the poll read that saw the bit set is the last one allowed (41_init R120); never without a limit. -/
def pollLimitReached (c : Config) (count : Nat) : Bool :=
  match c.pollLimit with
  | none => false
  | some n => decide (n ≤ count + 1)

/-- I2P: the count after a poll read that saw the bit set; without a limit there is no counter
(41_init R120, 10_state R29). -/
def pollCounted (c : Config) (count : Nat) : Nat :=
  match c.pollLimit with
  | none => count
  | some _ => count + 1

/-- O1: the low three bits of the orientation register (45_orientation R181). -/
def orientationCode (b : Byte) : Byte :=
  b &&& Config.mOrient

/-- `dstate` as the host reads it (10_state R27). -/
def DState.code : DState → BitVec 2
  | .uninitialized => 0
  | .resetting => 1
  | .configured => 2
  | .active => 3

/-- `status` as the host reads it (10_state R28). -/
def Status.code : Status → BitVec 2
  | .ok => 0
  | .deviceNotFound => 1
  | .transportError => 2
  | .protocolTimeout => 3

/-- The predicate `Ready` (10_state R38). -/
def State.ready (s : State) : Bool :=
  decide (s.dstate = .active) && !s.busy

/-- Whether a result of the command in flight or last ended is marked a result: a command ended, and with `OK`
(10_state R22). -/
def State.resultValid (s : State) : Bool :=
  s.done && decide (s.status = .ok)

end Sys2Proof.Machine
end

