-- ==== Sys2Proof/Syntax.lean ====
section
/-!
DEFINITION. The instructions: one constructor per row of spec/opcode_table.json, the four commands of the host
(30_encoding R80, R81) and the three transport primitives of the sequence ROM (30_encoding R84, 40_transport R101
to R103).
-/

namespace Sys2Proof

/-- An instruction. A command carries bit 2 of its word, which `Issue` latches for every opcode (30_encoding R82,
R83). A transaction carries the fields of its request (R84); a read's `wdata` field is 0 and is no operand. -/
inductive Instr where
  /-- `INIT` (41_init R115); `g` is latched and not used. -/
  | init (g : Bool)
  /-- `RDTSRC` (42_transient_source R145); `g` is latched and not used. -/
  | rdtsrc (g : Bool)
  /-- `GETACC` (43_acceleration R150); `g` selects the unit, true for g. -/
  | getacc (g : Bool)
  /-- `GETORI` (45_orientation R180); `g` is latched and not used. -/
  | getori (g : Bool)
  /-- `RD reg` (40_transport R101). -/
  | rd (dev : DevAddr) (reg : RegAddr)
  /-- `WR reg, byte` (40_transport R102). -/
  | wr (dev : DevAddr) (reg : RegAddr) (wdata : Byte)
  /-- `RDBLK reg` (40_transport R103). -/
  | rdblk (dev : DevAddr) (reg : RegAddr)
deriving DecidableEq, Repr

end Sys2Proof
end

