-- ==== Sys2Proof/WellFormed.lean ====
section
/-!
DEFINITION. Which instructions are well formed. The one check of the spec on an operand: a block read of six
registers does not run past register `0xFF` (40_transport R103, 20_memory R54 (b)).
-/

namespace Sys2Proof

/-- Every operand of every other instruction may take every value of its field (30_encoding R83, R84). -/
def Instr.wf : Instr → Bool
  | .init _ => true
  | .rdtsrc _ => true
  | .getacc _ => true
  | .getori _ => true
  | .rd _ _ => true
  | .wr _ _ _ => true
  | .rdblk _ reg => decide (reg.toNat ≤ 0xFA)

end Sys2Proof
end

