-- ==== Sys2Proof/Decode.lean ====
section
/-!
DEFINITION. Decoding and encoding of the command word (30_encoding R80 to R83), the request word (R84) and the
response word (R85), written from the spec's field tables.
-/

namespace Sys2Proof

/-- Why a word is no instruction. Log entry 12. -/
inductive DecodeError where
  /-- A number that no port of the block carries: more bits than the word of its format has (30_encoding R93). -/
  | notAWord
  /-- Request kind `0b11`, reserved and never generated (30_encoding R84). -/
  | reservedKind
  /-- A read request whose `wdata` field is not `0x00` (30_encoding R84). -/
  | readWithData
deriving DecidableEq, Repr

/-- A word at the port it travels on: a command word or a request word (30_encoding R93). -/
inductive PortWord where
  | cmd (w : CmdWord)
  | txn (q : ReqWord)
deriving DecidableEq, Repr

/-! ## The command word -/

/-- The opcode of a command (30_encoding R81); also the value the host reads in `cmd` (10_state R24). -/
def Cmd.code : Cmd → BitVec 2
  | .init => 0
  | .rdtsrc => 1
  | .getacc => 2
  | .getori => 3

/-- The command of an opcode: all four are assigned (30_encoding R81). -/
def Cmd.ofCode (op : BitVec 2) : Cmd :=
  if op = 0 then .init else if op = 1 then .rdtsrc else if op = 2 then .getacc else .getori

/-- The instruction of a command with its operand bit. -/
def Cmd.instr (c : Cmd) (g : Bool) : Instr :=
  match c with
  | .init => .init g
  | .rdtsrc => .rdtsrc g
  | .getacc => .getacc g
  | .getori => .getori g

/-- Decode a command word: total, no word is illegal (30_encoding R83). -/
def decodeCommand (w : CmdWord) : Instr :=
  (Cmd.ofCode (w.extractLsb' 0 2)).instr (w.getLsbD 2)

/-- The command word of an opcode and an operand bit (30_encoding R80). -/
def commandWord (c : Cmd) (g : Bool) : CmdWord :=
  BitVec.ofBool g ++ c.code

/-! ## The request word -/

/-- The two bits of a request kind (30_encoding R84). -/
def Kind.code : Kind → BitVec 2
  | .rd => 0
  | .wr => 1
  | .rdblk => 2

/-- The packed form of a request: `kind`, `dev`, `reg`, `wdata` from the top (30_encoding R84). -/
def Request.word (q : Request) : ReqWord :=
  q.kind.code ++ q.dev ++ q.reg ++ q.wdata

/-- Decode a request word (30_encoding R84): kind `0b11` and a read that carries data are rejected by name. -/
def decodeRequest (q : ReqWord) : Except DecodeError Instr :=
  let kind := q.extractLsb' 23 2
  let dev := q.extractLsb' 16 7
  let reg := q.extractLsb' 8 8
  let wdata := q.extractLsb' 0 8
  if kind = 1 then .ok (.wr dev reg wdata)
  else if kind = 3 then .error .reservedKind
  else if wdata ≠ 0 then .error .readWithData
  else if kind = 0 then .ok (.rd dev reg)
  else .ok (.rdblk dev reg)

/-! ## Both -/

/-- Decode a word at its port. -/
def decode : PortWord → Except DecodeError Instr
  | .cmd w => .ok (decodeCommand w)
  | .txn q => decodeRequest q

/-- The word of an instruction, at the port it travels on. -/
def encode : Instr → PortWord
  | .init g => .cmd (commandWord .init g)
  | .rdtsrc g => .cmd (commandWord .rdtsrc g)
  | .getacc g => .cmd (commandWord .getacc g)
  | .getori g => .cmd (commandWord .getori g)
  | .rd dev reg => .txn (Request.word ⟨.rd, dev, reg, 0⟩)
  | .wr dev reg wdata => .txn (Request.word ⟨.wr, dev, reg, wdata⟩)
  | .rdblk dev reg => .txn (Request.word ⟨.rdblk, dev, reg, 0⟩)

/-- The word at a port that a number of the opcode table stands for: up to 8 bits (one byte) the 3-bit command
word, above it the 25-bit request word; a number with more bits than its word has is no word (30_encoding R93; log entry 7). -/
def portWordOf (nbits w : Nat) : Except DecodeError PortWord :=
  if nbits ≤ 8 then
    if w < 2 ^ 3 then .ok (.cmd (BitVec.ofNat 3 w)) else .error .notAWord
  else
    if w < 2 ^ 25 then .ok (.txn (BitVec.ofNat 25 w)) else .error .notAWord

/-- The decoder on the opcode table's numbering of an instruction's bits. -/
def decodeTableWord (nbits w : Nat) : Option Instr :=
  match portWordOf nbits w with
  | .ok p =>
    match decode p with
    | .ok i => some i
    | .error _ => none
  | .error _ => none

/-! ## The response word (30_encoding R85) -/

/-- Bit 48, `err`. -/
def rspErr (r : RspWord) : Bool := r.getLsbD 48

/-- Bits 47:40, the byte of a single read (`b0` of a block). -/
def rspByte (r : RspWord) : Byte := r.extractLsb' 40 8

/-- Bits 47:0, the six bytes of a block read, `b0` at the top. -/
def rspSample (r : RspWord) : Sample :=
  ⟨r.extractLsb' 40 8, r.extractLsb' 32 8, r.extractLsb' 24 8, r.extractLsb' 16 8, r.extractLsb' 8 8, r.extractLsb' 0 8⟩

/-- The response a word carries to a request of a kind: every word is one, and the bits the kind does not use
are ignored (30_encoding R85), so no ill-typed response exists (40_transport R108; log entry 8). -/
def decodeResponse (k : Kind) (r : RspWord) : Response :=
  if rspErr r then .err
  else
    match k with
    | .rd => .okByte (rspByte r)
    | .wr => .okWrite
    | .rdblk => .okBlock (rspSample r)

/-- The packed form of a response, ignored bits 0 (30_encoding R85). -/
def Response.word : Response → RspWord
  | .err => (1 : BitVec 1) ++ (0 : BitVec 48)
  | .okByte b => (0 : BitVec 1) ++ b ++ (0 : BitVec 40)
  | .okWrite => 0
  | .okBlock s => (0 : BitVec 1) ++ s.b0 ++ s.b1 ++ s.b2 ++ s.b3 ++ s.b4 ++ s.b5

/-- Whether a response is of the type a request of a kind calls for (30_encoding R85). -/
def Response.fits (k : Kind) : Response → Bool
  | .err => true
  | .okByte _ => k = .rd
  | .okWrite => k = .wr
  | .okBlock _ => k = .rdblk

end Sys2Proof
end

