-- ==== Sys2Proof/Machine/Rom.lean ====
section
/-!
DEFINITION. The sequence ROM: the nineteen micro-ops, their places, their requests, and the entry points and ranges
of the commands (30_encoding R86 to R88).
-/

namespace Sys2Proof.Machine

/-- The micro-ops by label (30_encoding R86). -/
inductive MicroOp where
  | i1 | i2w | i2p | i3 | i4 | i5 | i6 | i7 | i8 | i9 | i10 | i11 | i12 | i13 | i14
  | t1 | a1 | a2 | o1
deriving DecidableEq, Repr

/-- The place of a micro-op (30_encoding R86). -/
def MicroOp.addr : MicroOp → BitVec 5
  | .i1 => 0
  | .i2w => 1
  | .i2p => 2
  | .i3 => 3
  | .i4 => 4
  | .i5 => 5
  | .i6 => 6
  | .i7 => 7
  | .i8 => 8
  | .i9 => 9
  | .i10 => 10
  | .i11 => 11
  | .i12 => 12
  | .i13 => 13
  | .i14 => 14
  | .t1 => 15
  | .a1 => 16
  | .a2 => 17
  | .o1 => 18

/-- The micro-op at a place; 19 to 31 hold none (30_encoding R88). -/
def microOpAt (pc : BitVec 5) : Option MicroOp :=
  match pc.toNat with
  | 0 => some .i1
  | 1 => some .i2w
  | 2 => some .i2p
  | 3 => some .i3
  | 4 => some .i4
  | 5 => some .i5
  | 6 => some .i6
  | 7 => some .i7
  | 8 => some .i8
  | 9 => some .i9
  | 10 => some .i10
  | 11 => some .i11
  | 12 => some .i12
  | 13 => some .i13
  | 14 => some .i14
  | 15 => some .t1
  | 16 => some .a1
  | 17 => some .a2
  | 18 => some .o1
  | _ => none

/-- The kind of a micro-op's transaction (30_encoding R86). -/
def MicroOp.kind : MicroOp → Kind
  | .i1 => .rd
  | .i2w => .wr
  | .i2p => .rd
  | .i3 => .wr
  | .i4 => .wr
  | .i5 => .wr
  | .i6 => .wr
  | .i7 => .wr
  | .i8 => .wr
  | .i9 => .wr
  | .i10 => .wr
  | .i11 => .wr
  | .i12 => .rd
  | .i13 => .wr
  | .i14 => .wr
  | .t1 => .rd
  | .a1 => .wr
  | .a2 => .rdblk
  | .o1 => .rd

/-- The device register a micro-op addresses (30_encoding R86). -/
def MicroOp.reg (c : Config) : MicroOp → RegAddr
  | .i1 => c.regWhoAmI
  | .i2w => c.regCtrl2
  | .i2p => c.regCtrl2
  | .i3 => c.regFSetup
  | .i4 => c.regCtrl2
  | .i5 => c.regCtrl1
  | .i6 => c.regTransientCfg
  | .i7 => c.regTransientThs
  | .i8 => c.regTransientCount
  | .i9 => c.regCtrl4
  | .i10 => c.regCtrl5
  | .i11 => c.regXyzDataCfg
  | .i12 => c.regCtrl1
  | .i13 => c.regCtrl1
  | .i14 => c.regPlCfg
  | .t1 => c.regTransientSrc
  | .a1 => c.regOutXMsb
  | .a2 => c.regOutXMsb
  | .o1 => c.regPlStatus

/-- The byte a micro-op writes; `0x00` for a read (30_encoding R84, R86). -/
def MicroOp.wdata (c : Config) : MicroOp → Byte
  | .i1 => 0
  | .i2w => c.bReset
  | .i2p => 0
  | .i3 => Config.vFifoOff
  | .i4 => c.vHires
  | .i5 => c.vStandby
  | .i6 => c.vTransCfg
  | .i7 => c.vTransThs
  | .i8 => c.vTransCount
  | .i9 => c.vIntEn
  | .i10 => c.vIntMap
  | .i11 => c.vDataCfg
  | .i12 => 0
  | .i13 => c.vActive
  | .i14 => c.vPlEn
  | .t1 => 0
  | .a1 => Config.vLatch
  | .a2 => 0
  | .o1 => 0

/-- The request of a micro-op, always to `DEV_ADDR` (30_encoding R84, 40_transport R104). -/
def MicroOp.request (c : Config) (m : MicroOp) : Request :=
  ⟨m.kind, c.devAddr, m.reg c, m.wdata c⟩

/-- The first micro-op of a command (30_encoding R87). -/
def entry : Cmd → BitVec 5
  | .init => 0
  | .rdtsrc => 15
  | .getacc => 16
  | .getori => 18

/-- The last micro-op of a command (30_encoding R87). -/
def lastOf : Cmd → BitVec 5
  | .init => 14
  | .rdtsrc => 15
  | .getacc => 17
  | .getori => 18

/-- `pc` lies in the micro-program of a command (30_encoding R87). -/
def inProgram (c : Cmd) (pc : BitVec 5) : Bool :=
  decide ((entry c).toNat ≤ pc.toNat) && decide (pc.toNat ≤ (lastOf c).toNat)

/-- Fetch: the request word the ROM holds at `pc`. -/
def fetchRequest (s : State) : Option ReqWord :=
  (microOpAt s.pc).map fun m => (m.request s.cfg).word

end Sys2Proof.Machine
end

