-- ==== Sys2Proof/Machine/Ops.lean ====
section
/-!
DEFINITION. The named operations on the state: control transfer, the end of a command (with the failure action, this
machine's taking of an exception), accepting a command, issuing a request, recording a response, the block reset.
-/

namespace Sys2Proof.Machine

/-! ## Control transfer and the end of a command -/

/-- `pc <- target` (41_init R117). -/
def State.goto (s : State) (target : BitVec 5) : State :=
  { s with pc := target }

/-- `finish` (60_exceptions R189): `pc` and `dstate` stay. -/
def State.finish (s : State) : State :=
  { s with status := .ok, busy := false, done := true }

/-- `fail c`, the whole trap entry (60_exceptions R190): nothing is saved, `pc` and every payload register stay. The
machine has no return from it: the block is idle and takes any command (R193). -/
def State.fail (s : State) (c : Status) : State :=
  { s with status := c, busy := false, done := true, dstate := .uninitialized }

/-! ## The host's step -/

/-- The effect of `Issue` on an idle block (10_state R42). -/
def State.accept (s : State) (c : Cmd) (g : Bool) : State :=
  { s with busy := true, done := false, cmd := c, useG := g, pc := entry c, pollCount := 0 }

/-- A command presented to the block: an idle block accepts it; a busy one neither accepts nor queues it, and
nothing changes (10_state R42, 60_exceptions R192; log entry 6). -/
def presentCommand (c : Cmd) (g : Bool) (s : State) : Host.Outcome State Fault Refusal :=
  if s.busy then .next s else .next (s.accept c g)

/-! ## The block's step -/

/-- The block has a transaction to issue (10_state R43). -/
def State.canIssueTxn (s : State) : Bool :=
  s.busy && !s.inflight

/-- The effect of `TxnIssue` with a request (10_state R43). -/
def State.send (s : State) (q : Request) : State :=
  { s with inflight := true, trace := s.trace ++ [⟨q, none⟩] }

/-- A request the block would issue: it leaves when a command is in flight and nothing is outstanding; otherwise
nothing is issued and nothing changes (10_state R40, R43, 40_transport R105; log entry 6). -/
def issueRequest (q : Request) (s : State) : Host.Outcome State Fault Refusal :=
  if s.canIssueTxn then .next (s.send q) else .next s

/-! ## The transport's step -/

/-- Put a response into the last transaction of a trace (10_state R39, R44). -/
def recordResponse (rsp : Response) : List TraceEntry → List TraceEntry
  | [] => []
  | [e] => [{ e with resp := some rsp }]
  | e :: e' :: es => e :: recordResponse rsp (e' :: es)

/-- The part of `TxnComplete` common to all micro-ops (10_state R44). -/
def State.answered (s : State) (rsp : Response) : State :=
  { s with inflight := false, trace := recordResponse rsp s.trace }

/-! ## The platform's step -/

/-- `Reset` (10_state R41, 70_reset_and_hazards R215 to R218): the control registers take their reset values, the
payload registers arbitrary ones (log entry 4), the trace restarts, an outstanding request is abandoned, `CFG` is
unaffected. -/
def State.blockReset (s : State) : State :=
  { s with
    busy := false
    done := false
    inflight := false
    cmd := .init
    useG := false
    pc := 0
    pollCount := 0
    dstate := .uninitialized
    status := .ok
    sample := Config.freeSample s.freeCount
    diag := Config.freeByte s.freeCount
    resByte := Config.freeByte (s.freeCount + 1)
    resX := Config.freeNumerator s.freeCount
    resY := Config.freeNumerator (s.freeCount + 1)
    resZ := Config.freeNumerator (s.freeCount + 2)
    unit := Config.freeFlag s.freeCount
    trace := []
    freeCount := s.freeCount + 3 }

/-! ## Who moves next -/

/-- The steps the spec enables in a state (10_state R40 to R44). -/
def State.enables (s : State) : Event → Bool
  | .reset => true
  | .issue _ => !s.busy
  | .txnIssue => s.busy && !s.inflight
  | .txnComplete _ => s.inflight

/-- The state with another schedule. -/
def State.withSchedule (s : State) (es : List Event) : State :=
  { s with schedule := es }

/-- The state with the free order of events from a place on. -/
def State.withArbitrary (s : State) (n : Nat) : State :=
  { s with thereafter := .arbitrary n }

/-- The next event, and the state without it: the schedule's first; with the schedule used up, the first of the events
that repeat (the others of that round are then the schedule) or the next of the free order. With nothing to come the
block takes its own turn if it has a transaction to issue, and otherwise nobody moves (log entry 1). -/
def State.pick (s : State) : Option (Event × State) :=
  match s.schedule with
  | e :: rest => some (e, s.withSchedule rest)
  | [] =>
    match s.thereafter with
    | .repeating (e :: rest) => some (e, s.withSchedule rest)
    | .repeating [] => if s.canIssueTxn then some (.txnIssue, s) else none
    | .arbitrary n => some (Config.freeEvent n, s.withArbitrary (n + 1))

end Sys2Proof.Machine
end

