-- ==== Sys2Proof/Machine/Load.lean ====
section
/-!
DEFINITION. Placing a request word where the block's next turn fetches it (log entry 7).
-/

namespace Sys2Proof.Machine

/-- The configuration and the place in the sequence under which the ROM holds a request word: the block has come to
a micro-op of the word's kind whose constants are the word's fields. Reserved words and reads that carry data leave
the state as it is. -/
def State.withRequestWord (s : State) (q : ReqWord) : State :=
  match decodeRequest q with
  | .ok (.rd dev reg) =>
    { s with busy := true, done := false, inflight := false, cmd := .init, pc := 0, schedule := .txnIssue :: s.schedule,
             cfg := { s.cfg with devAddrPrimary := dev, altStrap := false, regWhoAmI := reg } }
  | .ok (.wr dev reg wdata) =>
    { s with busy := true, done := false, inflight := false, cmd := .init, pc := 5, schedule := .txnIssue :: s.schedule,
             cfg := { s.cfg with devAddrPrimary := dev, altStrap := false, regCtrl1 := reg, vStandby := wdata } }
  | .ok (.rdblk dev reg) =>
    { s with busy := true, done := false, inflight := false, cmd := .getacc, pc := 17, schedule := .txnIssue :: s.schedule,
             cfg := { s.cfg with devAddrPrimary := dev, altStrap := false, regOutXMsb := reg } }
  | _ => s

end Sys2Proof.Machine
end

