-- ==== Sys2Proof/Machine/Commands.lean ====
section
/-!
DEFINITION. The four commands (30_encoding R81). A command's own effect is the step `Issue` (10_state R42): it
latches the command and its operand and sends `pc` to the command's micro-program, whose transactions follow.
-/

namespace Sys2Proof.Machine

/-- `INIT` (41_init R115). -/
def execInit (g : Bool) (s : State) : Host.Outcome State Fault Refusal :=
  presentCommand .init g s

/-- `RDTSRC` (42_transient_source R145). -/
def execRdtsrc (g : Bool) (s : State) : Host.Outcome State Fault Refusal :=
  presentCommand .rdtsrc g s

/-- `GETACC` (43_acceleration R150). -/
def execGetacc (g : Bool) (s : State) : Host.Outcome State Fault Refusal :=
  presentCommand .getacc g s

/-- `GETORI` (45_orientation R180). -/
def execGetori (g : Bool) (s : State) : Host.Outcome State Fault Refusal :=
  presentCommand .getori g s

end Sys2Proof.Machine
end

