-- ==== Sys2Proof/Machine/Transport.lean ====
section
/-!
DEFINITION. The three transport primitives (40_transport R101 to R103). A primitive's own effect is the step
`TxnIssue` (10_state R43): it puts its request on the transport; the response arrives in a later step.
-/

namespace Sys2Proof.Machine

/-- `RD reg` (40_transport R101). -/
def execRd (dev : DevAddr) (reg : RegAddr) (s : State) : Host.Outcome State Fault Refusal :=
  issueRequest ⟨.rd, dev, reg, 0⟩ s

/-- `WR reg, byte` (40_transport R102). -/
def execWr (dev : DevAddr) (reg : RegAddr) (wdata : Byte) (s : State) : Host.Outcome State Fault Refusal :=
  issueRequest ⟨.wr, dev, reg, wdata⟩ s

/-- `RDBLK reg` (40_transport R103). -/
def execRdblk (dev : DevAddr) (reg : RegAddr) (s : State) : Host.Outcome State Fault Refusal :=
  issueRequest ⟨.rdblk, dev, reg, 0⟩ s

end Sys2Proof.Machine
end

