-- ==== Sys2Proof/Machine/Dispatch.lean ====
section
/-!
DEFINITION. The one dispatch from an instruction to its meaning.
-/

namespace Sys2Proof.Machine

def exec (i : Instr) (s : State) : Host.Outcome State Fault Refusal :=
  match i with
  | .init g => Sys2Proof.Machine.execInit g s
  | .rdtsrc g => Sys2Proof.Machine.execRdtsrc g s
  | .getacc g => Sys2Proof.Machine.execGetacc g s
  | .getori g => Sys2Proof.Machine.execGetori g s
  | .rd dev reg => Sys2Proof.Machine.execRd dev reg s
  | .wr dev reg wdata => Sys2Proof.Machine.execWr dev reg wdata s
  | .rdblk dev reg => Sys2Proof.Machine.execRdblk dev reg s

end Sys2Proof.Machine
end

