-- ==== Sys2Proof/Machine/Operands.lean ====
section
/-!
DEFINITION. The datapath of micro-op A2: the 14-bit unpacker and the acceleration scaler, exact integer functions
of the sample bytes (44_unpack_scale R160 to R175).
-/

namespace Sys2Proof.Machine

/-- The unsigned 14-bit value of an axis pair, `(msb << 6) | (lsb >> 2)` (44_unpack_scale R161). -/
def raw14 (msb lsb : Byte) : BitVec 14 :=
  (msb.setWidth 14 <<< 6) ||| (lsb.setWidth 14 >>> 2)

/-- The sign rule: above 8191, less 16384 (44_unpack_scale R162). -/
def signed14 (raw : BitVec 14) : Int :=
  if raw.toNat > Config.half14 then (raw.toNat : Int) - (Config.mod14 : Int) else (raw.toNat : Int)

/-- The unpacker (44_unpack_scale R160, R162). -/
def unpack14 (msb lsb : Byte) : Int :=
  signed14 (raw14 msb lsb)

/-- The byte pair of a count, the inverse construction (44_unpack_scale R165). It is no part of the hardware. -/
def encode14 (v : Int) : Byte × Byte :=
  let u : BitVec 14 := BitVec.ofInt 14 v
  (u.extractLsb' 6 8, u.extractLsb' 0 6 ++ (0 : BitVec 2))

/-- The factor `K` of a unit (44_unpack_scale R168). -/
def scaleFactor (u : Bool) : Nat :=
  if u then 1 else Config.gStdNum

/-- The denominator `DEN` of a unit (44_unpack_scale R168). -/
def scaleDen (u : Bool) : Nat :=
  if u then Config.countsPerG else Config.countsPerG * Config.gStdDen

/-- The scaler: an exact signed product (44_unpack_scale R168). -/
def scale (s : Int) (u : Bool) : Int :=
  s * (scaleFactor u : Int)

/-- A numerator as the 34-bit register holds it (10_state R33, 44_unpack_scale R169). -/
def numeratorOf (n : Int) : Numerator :=
  BitVec.ofInt 34 n

/-- One lane of A2: unpack a pair, scale it, narrow it to the register (44_unpack_scale R173). -/
def axisResult (msb lsb : Byte) (u : Bool) : Numerator :=
  numeratorOf (scale (unpack14 msb lsb) u)

/-- The physical value a result stands for: numerator over the denominator of its unit, in g or in m/s²
(44_unpack_scale R170). It is computed by the host, not by the block. -/
def resultValue (n : Numerator) (u : Bool) : Rat :=
  (n.toInt : Rat) / (scaleDen u : Rat)

end Sys2Proof.Machine
end

