-- ==== Sys2Proof/Machine/MicroOps.lean ====
section
/-!
DEFINITION. The completion action of each micro-op on an `Ok` response, one definition each, and the step
`TxnComplete` (10_state R44; 41_init R118 to R134, 42_transient_source R146, 43_acceleration R151 to R155,
45_orientation R181).
-/

namespace Sys2Proof.Machine

/-- I1 (41_init R118). -/
def completeI1 (b : Byte) (s : State) : State :=
  if identityMatches b then s.goto 1 else s.fail .deviceNotFound

/-- I2W (41_init R119). -/
def completeI2W (s : State) : State :=
  { s with dstate := .resetting, pollCount := 0, pc := 2 }

/-- I2P (41_init R120): the bit-clear test comes before the limit test (60_exceptions R192). -/
def completeI2P (b : Byte) (s : State) : State :=
  if resetBitClear s.cfg b then s.goto 3
  else if pollLimitReached s.cfg s.pollCount then s.fail .protocolTimeout
  else { s with pollCount := pollCounted s.cfg s.pollCount, pc := 2 }

/-- I3 (41_init R122). -/
def completeI3 (s : State) : State := s.goto 4

/-- I4 (41_init R123). -/
def completeI4 (s : State) : State := s.goto 5

/-- I5 (41_init R124). -/
def completeI5 (s : State) : State := s.goto 6

/-- I6 (41_init R125). -/
def completeI6 (s : State) : State := s.goto 7

/-- I7 (41_init R126). -/
def completeI7 (s : State) : State := s.goto 8

/-- I8 (41_init R127). -/
def completeI8 (s : State) : State := s.goto 9

/-- I9 (41_init R128). -/
def completeI9 (s : State) : State := s.goto 10

/-- I10 (41_init R129). -/
def completeI10 (s : State) : State := s.goto 11

/-- I11 (41_init R130). -/
def completeI11 (s : State) : State :=
  { s with dstate := .configured, pc := 12 }

/-- I12 (41_init R131). -/
def completeI12 (b : Byte) (s : State) : State :=
  { s with diag := b, pc := 13 }

/-- I13 (41_init R132). -/
def completeI13 (s : State) : State :=
  { s with dstate := .active, pc := 14 }

/-- I14 (41_init R133). -/
def completeI14 (s : State) : State := s.finish

/-- T1 (42_transient_source R146). -/
def completeT1 (b : Byte) (s : State) : State :=
  ({ s with resByte := b } : State).finish

/-- A1 (43_acceleration R151). -/
def completeA1 (s : State) : State := s.goto 17

/-- A2 (43_acceleration R152): three lanes, one unit (44_unpack_scale R173). -/
def completeA2 (b : Sample) (s : State) : State :=
  ({ s with
      sample := b
      resX := axisResult b.b0 b.b1 s.useG
      resY := axisResult b.b2 b.b3 s.useG
      resZ := axisResult b.b4 b.b5 s.useG
      unit := s.useG } : State).finish

/-- O1 (45_orientation R181). -/
def completeO1 (b : Byte) (s : State) : State :=
  ({ s with resByte := orientationCode b } : State).finish

/-- The completion action of the micro-op in flight on an `Ok` response word (10_state R44). -/
def completeOk (m : MicroOp) (r : RspWord) (s : State) : State :=
  match m with
  | .i1 => completeI1 (rspByte r) s
  | .i2w => completeI2W s
  | .i2p => completeI2P (rspByte r) s
  | .i3 => completeI3 s
  | .i4 => completeI4 s
  | .i5 => completeI5 s
  | .i6 => completeI6 s
  | .i7 => completeI7 s
  | .i8 => completeI8 s
  | .i9 => completeI9 s
  | .i10 => completeI10 s
  | .i11 => completeI11 s
  | .i12 => completeI12 (rspByte r) s
  | .i13 => completeI13 s
  | .i14 => completeI14 s
  | .t1 => completeT1 (rspByte r) s
  | .a1 => completeA1 s
  | .a2 => completeA2 (rspSample r) s
  | .o1 => completeO1 (rspByte r) s

/-- The completion action on any response word: `Err` is tested first (60_exceptions R192) and fails every micro-op
alike (41_init R134, 60_exceptions R187). -/
def completeMicroOp (m : MicroOp) (r : RspWord) (s : State) : State :=
  if rspErr r then s.fail .transportError else completeOk m r s

/-- `TxnComplete` (10_state R44). A response when nothing is outstanding is not accepted and nothing changes
(70_reset_and_hazards R217, 40_transport R108; log entry 6). -/
def txnComplete (r : RspWord) (s : State) : Host.Outcome State Fault Refusal :=
  if s.inflight then
    match microOpAt s.pc with
    | some m => .next (completeMicroOp m r (s.answered (decodeResponse m.kind r)))
    | none => .refused .noMicroOp
  else .next s

end Sys2Proof.Machine
end

