-- ==== Sys2Proof/Machine/Run.lean ====
section
/-!
DEFINITION. What each of the four kinds of step does (10_state R40 to R44): the block's turn fetches a request word
from the sequence ROM, decodes it and executes it, and an event is performed.
-/

namespace Sys2Proof.Machine

/-- The block's turn: fetch the request word at `pc` from the sequence ROM, decode it, execute it (10_state R43). A
block with no transaction to issue lets its turn pass (10_state R40, R45). -/
def runMicroOp (s : State) : Host.Outcome State Fault Refusal :=
  if s.canIssueTxn then
    match fetchRequest s with
    | none => .refused .noMicroOp
    | some q =>
      match decodeRequest q with
      | .ok i => exec i s
      | .error _ => .refused .reservedRequest
  else .next s

/-- Perform one event (10_state R40 to R44). -/
def perform (e : Event) (s : State) : Host.Outcome State Fault Refusal :=
  match e with
  | .reset => .next s.blockReset
  | .issue w => exec (decodeCommand w) s
  | .txnIssue => runMicroOp s
  | .txnComplete r => txnComplete r s

end Sys2Proof.Machine
end

