-- ==== Sys2Proof/Machine/Step.lean ====
section
/-!
DEFINITION. The step of the machine (10_state R40): the next event is taken and performed. And the
placing of one instruction where the next step fetches it.
-/

namespace Sys2Proof.Machine

/-- One step. With nothing to come and no transaction to issue nobody moves and the state stays: an idle block
waits for a command (70_reset_and_hazards R216), a block with a request outstanding for its response (40_transport
R107). -/
def step (s : State) : Host.Outcome State Fault Refusal :=
  match s.pick with
  | none => .next s
  | some (e, s') => perform e s'

/-- `s` with one instruction where the next step fetches it (log entry 7). A command word is presented by the host to
an idle block. A request word is what the ROM holds at `pc` with the block's turn next. -/
def State.withFetchWord (s : State) (nbits w : Nat) : State :=
  match portWordOf nbits w with
  | .ok (.cmd c) => { s with busy := false, inflight := false, schedule := .issue c :: s.schedule }
  | .ok (.txn q) => s.withRequestWord q
  | .error _ => s

end Sys2Proof.Machine
end

