-- ==== Sys2Proof/Machine/Asm.lean ====
section
/-!
DEFINITION. The spellings of commands, transactions and responses (30_encoding R94; log entry 14).
-/

namespace Sys2Proof.Machine

/-- A hexadecimal digit. -/
def hexDigit (n : Nat) : Char :=
  if n < 10 then Char.ofNat (48 + n) else Char.ofNat (55 + n)

/-- A byte as the spec writes it, `0x1A`. -/
def hexByte (b : Byte) : List Char :=
  ['0', 'x', hexDigit (b.toNat / 16), hexDigit (b.toNat % 16)]

/-- The spelling of an instruction (30_encoding R94): bare `GETACC` is `GETACC si`, and a transaction does not spell
its device address. -/
def asm : Instr → List Char
  | .init _ => "INIT".toList
  | .rdtsrc _ => "RDTSRC".toList
  | .getacc true => "GETACC g".toList
  | .getacc false => "GETACC si".toList
  | .getori _ => "GETORI".toList
  | .rd _ reg => "RD ".toList ++ hexByte reg
  | .wr _ reg wdata => "WR ".toList ++ hexByte reg ++ ", ".toList ++ hexByte wdata
  | .rdblk _ reg => "RDBLK ".toList ++ hexByte reg

/-- The spelling of a response, after `->` (30_encoding R94). -/
def Response.asm : Response → List Char
  | .err => "Err".toList
  | .okByte b => hexByte b
  | .okWrite => "Ok".toList
  | .okBlock s =>
    hexByte s.b0 ++ [' '] ++ hexByte s.b1 ++ [' '] ++ hexByte s.b2 ++ [' '] ++ hexByte s.b3 ++ [' '] ++ hexByte s.b4
      ++ [' '] ++ hexByte s.b5

/-- The command word of a line (30_encoding R82, R94): without the operand, `g` is 0; no mnemonic expands to
another. -/
def assembleCommand (line : List Char) : Option CmdWord :=
  if line = "INIT".toList then some (commandWord .init false)
  else if line = "RDTSRC".toList then some (commandWord .rdtsrc false)
  else if line = "GETACC g".toList then some (commandWord .getacc true)
  else if line = "GETACC si".toList then some (commandWord .getacc false)
  else if line = "GETACC".toList then some (commandWord .getacc false)
  else if line = "GETORI".toList then some (commandWord .getori false)
  else none

/-- The unit tag of a result (44_unpack_scale R171, 10_state R34). -/
def unitTag (u : Bool) : List Char :=
  if u then "g".toList else "m/s²".toList

end Sys2Proof.Machine
end

