-- ==== Sys2Proof/Safety.lean ====
section
/-!
DEFINITION. The terms claims are stated in: runs, the invariants of 10_state R37, the legal order of transactions
(20_memory R71, 41_init R116), and the record of a successful `INIT` (10_state R37 (e), R38).
-/

namespace Sys2Proof.Safety

open Sys2Proof Sys2Proof.Machine

/-! ## Runs -/

/-- `n` steps, stopping at a refusal. -/
def run : Nat → State → Host.Outcome State Fault Refusal
  | 0, s => .next s
  | n + 1, s =>
    match step s with
    | .next t => run n t
    | .fault f => .fault f
    | .refused r => .refused r

/-- The schedule in which the block issues a transaction and the transport answers it, once for each response. -/
def answering (rs : List RspWord) : List Event :=
  rs.flatMap fun r => [.txnIssue, .txnComplete r]

/-- Nothing but commands and the block's own turns comes, for ever: the transport never answers, and the platform does
not reset the block (70_reset_and_hazards R233 (a)). -/
def TransportSilent (s : State) : Prop :=
  (∀ e ∈ s.schedule, e = .txnIssue ∨ ∃ w, e = .issue w) ∧
  ∃ es, s.thereafter = .repeating es ∧ ∀ e ∈ es, e = .txnIssue ∨ ∃ w, e = .issue w

/-- The completed transaction of a micro-op and the response word it got. -/
def entryOf (c : Config) (m : MicroOp) (r : RspWord) : TraceEntry :=
  ⟨m.request c, some (decodeResponse m.kind r)⟩

/-- The answer to a poll read of a chip that has not finished its reset: the reset bit reads as set (20_memory R62, an
assumption on the transport that a statement names; no step depends on it). -/
def ShowsResetPending (c : Config) (r : RspWord) : Prop :=
  rspErr r = false ∧ rspByte r &&& c.bReset ≠ 0

/-- The answer to a poll read of a chip that has finished its reset: the bit reads as 0 (20_memory R62). -/
def ShowsResetDone (c : Config) (r : RspWord) : Prop :=
  rspErr r = false ∧ rspByte r &&& c.bReset = 0

/-- The transport answers the poll reads with these responses, round after round, for ever (70_reset_and_hazards R226,
R233 (b)). -/
def PollsForEver (s : State) (polls : List RspWord) : Prop :=
  s.busy = true ∧ s.inflight = false ∧ s.pc = 2 ∧ s.cfg.pollLimit = none ∧ polls ≠ [] ∧
  (∀ p ∈ polls, ShowsResetPending s.cfg p) ∧ s.schedule = [] ∧ s.thereafter = .repeating (answering polls)

/-- The micro-ops of an `INIT` whose poll took `k` reads, in order (41_init R116). -/
def initOps (k : Nat) : List MicroOp :=
  [.i1, .i2w] ++ List.replicate k .i2p ++ [.i3, .i4, .i5, .i6, .i7, .i8, .i9, .i10, .i11, .i12, .i13, .i14]

/-! ## The invariants of every reachable state -/

/-- 10_state R37 (a), (b), (c), (d) and (f). -/
def ControlInv (s : State) : Prop :=
  (s.busy = true → s.done = false) ∧
  (s.inflight = true → s.busy = true) ∧
  (s.busy = true → inProgram s.cmd s.pc = true) ∧
  s.pc.toNat ≤ 18 ∧
  (∀ n, s.cfg.pollLimit = some n → s.pollCount ≤ n - 1)

/-- One transaction at a time, every one out of the ROM and to `DEV_ADDR` (40_transport R104, R105, R108): all
transactions but the one in flight are answered, each with a response of its request's type, and the one in flight is
the micro-op at `pc`. -/
def TraceInv (s : State) : Prop :=
  ∃ past : List TraceEntry,
    (∀ e ∈ past, ∃ (m : MicroOp) (r : Response), e.req = m.request s.cfg ∧ e.resp = some r ∧ r.fits m.kind = true) ∧
    if s.inflight then ∃ m : MicroOp, microOpAt s.pc = some m ∧ s.trace = past ++ [⟨m.request s.cfg, none⟩]
    else s.trace = past

/-! ## The legal order of transactions -/

/-- A micro-op at which a command starts (30_encoding R87). -/
def isEntry (m : MicroOp) : Bool :=
  m = .i1 || m = .t1 || m = .a1 || m = .o1

/-- After micro-op `m` and a response, the same command goes on at `m'` (41_init R116 to R133, 43_acceleration
R154). -/
def GoesOn (c : Config) (m : MicroOp) (r : Response) (m' : MicroOp) : Prop :=
  match m, r with
  | .i1, .okByte b => b = 0x1A ∧ m' = .i2w
  | .i2w, .okWrite => m' = .i2p
  | .i2p, .okByte b => if b &&& c.bReset = 0 then m' = .i3 else m' = .i2p
  | .i3, .okWrite => m' = .i4
  | .i4, .okWrite => m' = .i5
  | .i5, .okWrite => m' = .i6
  | .i6, .okWrite => m' = .i7
  | .i7, .okWrite => m' = .i8
  | .i8, .okWrite => m' = .i9
  | .i9, .okWrite => m' = .i10
  | .i10, .okWrite => m' = .i11
  | .i11, .okWrite => m' = .i12
  | .i12, .okByte _ => m' = .i13
  | .i13, .okWrite => m' = .i14
  | .a1, .okWrite => m' = .a2
  | _, _ => False

/-- After micro-op `m` and a response, the command has ended: a transport error (R134), the wrong identity (R118), a
poll over its limit (R120), or the last micro-op answered (60_exceptions R189). -/
def Ends (c : Config) (m : MicroOp) (r : Response) : Prop :=
  r = .err ∨
  (m = .i1 ∧ ∃ b, r = .okByte b ∧ b ≠ 0x1A) ∨
  (m = .i2p ∧ c.pollLimit ≠ none ∧ ∃ b, r = .okByte b ∧ b &&& c.bReset ≠ 0) ∨
  m = .i14 ∨ m = .t1 ∨ m = .a2 ∨ m = .o1

/-- Micro-op `m'` may be the next transaction after the labelled transaction `p`. -/
def MayFollow (c : Config) (p : MicroOp × Option Response) (m' : MicroOp) : Prop :=
  ∃ r, p.2 = some r ∧ (GoesOn c p.1 r m' ∨ (Ends c p.1 r ∧ isEntry m' = true))

/-- The transaction of a label. -/
def labelled (c : Config) (p : MicroOp × Option Response) : TraceEntry :=
  ⟨p.1.request c, p.2⟩

/-- Micro-op `m` may be the next transaction after a list of labelled transactions: the first one starts a command. -/
def MayExtend (c : Config) (ps : List (MicroOp × Option Response)) (m : MicroOp) : Prop :=
  match ps.getLast? with
  | none => isEntry m = true
  | some p => MayFollow c p m

/-- A list of labelled transactions is in the legal order: commands one after the other, each a prefix of its
micro-program that runs on until it ends (20_memory R71). -/
inductive LegalOrder (c : Config) : List (MicroOp × Option Response) → Prop
  | nil : LegalOrder c []
  | snoc (ps : List (MicroOp × Option Response)) (m : MicroOp) (r : Option Response) :
      LegalOrder c ps → MayExtend c ps m → LegalOrder c (ps ++ [(m, r)])

/-- The transactions directly before a place in a list end with these. -/
def ComesAfter (before last : List (MicroOp × Option Response)) : Prop :=
  ∃ start, before = start ++ last

/-- What stands directly before a micro-op's transaction: the latch write before the block read (43_acceleration R154),
the poll read that shows the reset done before the first configuration write (70_reset_and_hazards R223), standby and
the motion registers already written before each motion register (R222), the whole configuration before the activation
(R221, R222). -/
def HazardsKept (c : Config) (before : List (MicroOp × Option Response)) : MicroOp → Prop
  | .a2 => ComesAfter before [(.a1, some .okWrite)]
  | .i3 => ∃ b, b &&& c.bReset = 0 ∧ ComesAfter before [(.i2p, some (.okByte b))]
  | .i6 => ComesAfter before [(.i5, some .okWrite)]
  | .i7 => ComesAfter before [(.i5, some .okWrite), (.i6, some .okWrite)]
  | .i8 => ComesAfter before [(.i5, some .okWrite), (.i6, some .okWrite), (.i7, some .okWrite)]
  | .i13 => ∃ b d, b &&& c.bReset = 0 ∧ ComesAfter before
      [(.i2p, some (.okByte b)), (.i3, some .okWrite), (.i4, some .okWrite), (.i5, some .okWrite), (.i6, some .okWrite),
       (.i7, some .okWrite), (.i8, some .okWrite), (.i9, some .okWrite), (.i10, some .okWrite), (.i11, some .okWrite),
       (.i12, some (.okByte d))]
  | _ => True

/-- The trace is a legal order, and the state stands where the trace has brought it. -/
def OrderInv (s : State) : Prop :=
  ∃ ps : List (MicroOp × Option Response),
    s.trace = ps.map (labelled s.cfg) ∧ LegalOrder s.cfg ps ∧
    if s.inflight then ∃ m, microOpAt s.pc = some m ∧ ps.getLast? = some (m, none)
    else if s.busy then ∃ m, microOpAt s.pc = some m ∧ MayExtend s.cfg ps m
    else ∀ p, ps.getLast? = some p → ∃ r, p.2 = some r ∧ Ends s.cfg p.1 r

/-- The whole invariant. -/
def Inv (s : State) : Prop :=
  ControlInv s ∧ TraceInv s ∧ OrderInv s

/-! ## The record of a successful INIT -/

/-- The command in flight ends in the step from `s` to `t` (70_reset_and_hazards R231). -/
def endsIn (s t : State) : Bool :=
  s.busy && !t.busy

/-- The step from `s` is a `Reset`. -/
def resets (s : State) : Bool :=
  decide (s.pick.map Prod.fst = some .reset)

/-- An observer of the run: since the last reset some `INIT` has ended with `OK` and no command has ended otherwise
since (10_state R37 (e)). -/
def initGood (s t : State) (before : Bool) : Bool :=
  if resets s then false
  else if endsIn s t then
    if t.status = .ok then before || decide (t.cmd = .init) else false
  else before

/-- 10_state R37 (e) for an observer's record `good`: with the driver state `Active`, and no `INIT` still running, some
`INIT` has ended with `OK` and no command has failed since. -/
def ActiveInv (s : State) (good : Bool) : Prop :=
  s.dstate = .active → (s.busy = true → s.cmd ≠ .init) → good = true

/-! ## One micro-op's turn -/

/-- A command is in flight with nothing outstanding, `pc` is at a place, and what comes next is the block's turn and
then the response word `r`. -/
def OnTurn (s : State) (pc : BitVec 5) (r : RspWord) (rest : List Event) : Prop :=
  s.busy = true ∧ s.inflight = false ∧ s.pc = pc ∧ s.schedule = .txnIssue :: .txnComplete r :: rest

/-- The transaction at a place is in flight and a successful response to it comes next. -/
def AnsweredOk (s : State) (pc : BitVec 5) : Prop :=
  s.inflight = true ∧ s.pc = pc ∧ ∃ r u, s.pick = some (.txnComplete r, u) ∧ rspErr r = false

/-- A configuration write that only falls through (41_init R122 to R129): at `pc` the block writes a constant to a
register and, on `Ok`, goes on at the next place; nothing else changes. -/
def WriteFallsThrough (pc next : BitVec 5) (reg : Config → RegAddr) (wdata : Config → Byte) : Prop :=
  ∀ (s : State) (r : RspWord) (rest : List Event), OnTurn s pc r rest → rspErr r = false →
    run 2 s = .next { s with
      pc := next
      inflight := false
      trace := s.trace ++ [⟨⟨.wr, s.cfg.devAddr, reg s.cfg, wdata s.cfg⟩, some .okWrite⟩]
      schedule := rest }

/-! ## What a driver state and a payload cannot do -/

/-- Two states that agree on everything that decides what the block does next: they may differ in `dstate`, `status`,
`done`, every payload register and the free-value counter (60_exceptions R200, 43_acceleration R153). -/
def SameControl (s t : State) : Prop :=
  s.busy = t.busy ∧ s.inflight = t.inflight ∧ s.cmd = t.cmd ∧ s.useG = t.useG ∧ s.pc = t.pc ∧
  s.pollCount = t.pollCount ∧ s.trace = t.trace ∧ s.cfg = t.cfg ∧ s.schedule = t.schedule ∧
  s.thereafter = t.thereafter

end Sys2Proof.Safety
end

