-- ==== Sys2Proof/Certificates/Slice0/Obligations.lean ====
section
/-!
DEFINITION. The statements for the provers. A premise on `schedule`, `thereafter` or `pick` says what the host, the transport
and the platform do next: they are the model's own record of that (log entry 1). No statement rests on a free value.
-/

open Sys2Proof Sys2Proof.Machine Sys2Proof.Safety

/-! ## Encodings -/

/-- 30_encoding R80 to R84: no bit of an encoding is dropped, for every instruction with every operand. -/
def Obligations.DecodeOfEncodeIsTheInstruction : Prop :=
  ∀ i : Instr, decode (encode i) = .ok i

/-- 30_encoding R80 to R84: each accepted word is the encoding of what it decodes to. -/
def Obligations.EncodeOfDecodeIsTheWord : Prop :=
  ∀ (p : PortWord) (i : Instr), decode p = .ok i → encode i = p

/-- 30_encoding R84, U16: which request words are rejected, and by which name. That a read which carries data is rejected
is the model's reading (log entry 12). -/
def Obligations.ReservedRequestWordsAreRejected : Prop :=
  ∀ q : ReqWord,
    (decodeRequest q = .error .reservedKind ↔ q.extractLsb' 23 2 = 3) ∧
    (decodeRequest q = .error .readWithData ↔
      (q.extractLsb' 23 2 = 0 ∨ q.extractLsb' 23 2 = 2) ∧ q.extractLsb' 0 8 ≠ 0) ∧
    decodeRequest q ≠ .error .notAWord

/-- Words written out from the spec's encodings: one of each command and of each transaction (30_encoding R80 to R84;
the words are those of 95_test_vectors 2.3 and the ROM table of section 3). -/
def Obligations.WordsOfTheSpecDecode : Prop :=
  decodeTableWord 8 0b000 = some (.init false) ∧
  decodeTableWord 8 0b101 = some (.rdtsrc true) ∧
  decodeTableWord 8 0b110 = some (.getacc true) ∧
  decodeTableWord 8 0b011 = some (.getori false) ∧
  decodeTableWord 32 0x01D0D00 = some (.rd 0x1D 0x0D) ∧
  decodeTableWord 32 0x09D2B40 = some (.wr 0x1D 0x2B 0x40) ∧
  decodeTableWord 32 0x11D0100 = some (.rdblk 0x1D 0x01) ∧
  decodeTableWord 32 0x19D0100 = none

/-- 30_encoding R81, R82, R83: opcode in bits 1:0, operand in bit 2, every word a command. -/
def Obligations.CommandWordsDecodeByOpcode : Prop :=
  ∀ w : CmdWord,
    (w.extractLsb' 0 2 = 0 → decodeCommand w = .init (w.getLsbD 2)) ∧
    (w.extractLsb' 0 2 = 1 → decodeCommand w = .rdtsrc (w.getLsbD 2)) ∧
    (w.extractLsb' 0 2 = 2 → decodeCommand w = .getacc (w.getLsbD 2)) ∧
    (w.extractLsb' 0 2 = 3 → decodeCommand w = .getori (w.getLsbD 2))

/-- 30_encoding R85: every response word is a response of the type its request calls for, and a response's packed form
is read back. -/
def Obligations.ResponseWordsDecodeTyped : Prop :=
  ∀ k : Kind,
    (∀ r : RspWord, (decodeResponse k r).fits k = true) ∧
    (∀ rsp : Response, rsp.fits k = true → decodeResponse k rsp.word = rsp)

/-- 30_encoding R85: the bits of a response word that its request's kind does not use reach neither a register nor the
trace: two words that carry the same response take the block to the same state. -/
def Obligations.IgnoredResponseBitsHaveNoEffect : Prop :=
  ∀ (s : State) (m : MicroOp) (r r' : RspWord), microOpAt s.pc = some m →
    (rspErr r = true ∧ rspErr r' = true) ∨
      (rspErr r = false ∧ rspErr r' = false ∧
        (m.kind = .wr ∨ (m.kind = .rd ∧ r.extractLsb' 40 8 = r'.extractLsb' 40 8))) →
    txnComplete r s = txnComplete r' s

/-! ## A step runs what it decodes -/

/-- 10_state R40, R42: a presented command word is decoded and executed in the state without it: as the schedule's
first event, as the first of a round of repeating events, and wherever else it is the next event. In the free order the
next event is performed, whatever it is (log entry 1). -/
def Obligations.StepRunsTheDecodedCommand : Prop :=
  ∀ (s : State) (w : CmdWord),
    (∀ rest, s.schedule = .issue w :: rest → step s = exec (decodeCommand w) { s with schedule := rest }) ∧
    (∀ rest, s.schedule = [] → s.thereafter = .repeating (.issue w :: rest) →
      step s = exec (decodeCommand w) { s with schedule := rest }) ∧
    (∀ u, s.pick = some (.issue w, u) → step s = exec (decodeCommand w) u) ∧
    (∀ n, s.schedule = [] → s.thereafter = .arbitrary n →
      step s = perform (Config.freeEvent n) { s with thereafter := .arbitrary (n + 1) })

/-- 10_state R40, R43: on its turn the block executes the instruction its ROM's request word at `pc` decodes to: the turn
is the schedule's first event, the first of a round of repeating events, or its own with nothing to come (the model's
choice, log entry 1). -/
def Obligations.StepRunsTheDecodedRequest : Prop :=
  ∀ (s : State) (q : ReqWord) (i : Instr), s.busy = true → s.inflight = false → fetchRequest s = some q →
    decodeRequest q = .ok i →
    (∀ rest, s.schedule = .txnIssue :: rest → step s = exec i { s with schedule := rest }) ∧
    (∀ rest, s.schedule = [] → s.thereafter = .repeating (.txnIssue :: rest) →
      step s = exec i { s with schedule := rest }) ∧
    (s.schedule = [] → s.thereafter = .repeating [] → step s = exec i s)

/-- 30_encoding R88, U16: with `pc` at 19 to 31 there is no micro-op to issue and none to complete; the block's turn
and a response stop by name (the stop is the model's choice, log entry 11). -/
def Obligations.PlacesPastTheRomHoldNoMicroOp : Prop :=
  ∀ (s : State) (rest : List Event), 18 < s.pc.toNat → s.busy = true →
    (s.inflight = false → s.schedule = .txnIssue :: rest → step s = .refused .noMicroOp) ∧
    (∀ r, s.inflight = true → s.schedule = .txnComplete r :: rest → step s = .refused .noMicroOp)

/-! ## The seven instructions complete -/

/-- 10_state R42: `Issue` of each command on an idle block, with the entry points of 30_encoding R87. -/
def Obligations.IdleBlockAcceptsEveryCommand : Prop :=
  ∀ (s : State) (g : Bool), s.busy = false →
    exec (.init g) s =
      .next { s with busy := true, done := false, cmd := .init, useG := g, pc := 0, pollCount := 0 } ∧
    exec (.rdtsrc g) s =
      .next { s with busy := true, done := false, cmd := .rdtsrc, useG := g, pc := 15, pollCount := 0 } ∧
    exec (.getacc g) s =
      .next { s with busy := true, done := false, cmd := .getacc, useG := g, pc := 16, pollCount := 0 } ∧
    exec (.getori g) s =
      .next { s with busy := true, done := false, cmd := .getori, useG := g, pc := 18, pollCount := 0 }

/-- 10_state R43, 40_transport R101 to R103: each primitive puts its request on the transport when a command is in
flight and nothing is outstanding. -/
def Obligations.FreeTransportTakesEveryRequest : Prop :=
  ∀ (s : State) (dev : DevAddr) (reg : RegAddr) (wdata : Byte), s.busy = true → s.inflight = false →
    exec (.rd dev reg) s = .next { s with inflight := true, trace := s.trace ++ [⟨⟨.rd, dev, reg, 0⟩, none⟩] } ∧
    exec (.wr dev reg wdata) s =
      .next { s with inflight := true, trace := s.trace ++ [⟨⟨.wr, dev, reg, wdata⟩, none⟩] } ∧
    exec (.rdblk dev reg) s = .next { s with inflight := true, trace := s.trace ++ [⟨⟨.rdblk, dev, reg, 0⟩, none⟩] }

/-- 10_state R42, the frame of the four commands: an accepted command writes `busy`, `done`, `cmd`, `use_g`, `pc` and
`poll_count` and nothing else. No command stores to a device register: the trace stays. -/
def Obligations.CommandsLeaveTheRestUnchanged : Prop :=
  ∀ (s t : State) (c : Cmd) (g : Bool), exec (c.instr g) s = .next t →
    t.inflight = s.inflight ∧ t.dstate = s.dstate ∧ t.status = s.status ∧ t.sample = s.sample ∧ t.diag = s.diag ∧
    t.resByte = s.resByte ∧ t.resX = s.resX ∧ t.resY = s.resY ∧ t.resZ = s.resZ ∧ t.unit = s.unit ∧
    t.trace = s.trace ∧ t.cfg = s.cfg ∧ t.schedule = s.schedule ∧ t.thereafter = s.thereafter ∧
    t.freeCount = s.freeCount

/-- 10_state R43, the frame of the three primitives: `inflight` and one new entry of the trace, nothing else. -/
def Obligations.RequestsLeaveTheRestUnchanged : Prop :=
  ∀ (s t : State) (dev : DevAddr) (reg : RegAddr) (wdata : Byte) (i : Instr),
    i = .rd dev reg ∨ i = .wr dev reg wdata ∨ i = .rdblk dev reg → exec i s = .next t →
    t.busy = s.busy ∧ t.done = s.done ∧ t.cmd = s.cmd ∧ t.useG = s.useG ∧ t.pc = s.pc ∧ t.pollCount = s.pollCount ∧
    t.dstate = s.dstate ∧ t.status = s.status ∧ t.sample = s.sample ∧ t.diag = s.diag ∧ t.resByte = s.resByte ∧
    t.resX = s.resX ∧ t.resY = s.resY ∧ t.resZ = s.resZ ∧ t.unit = s.unit ∧ t.cfg = s.cfg ∧ t.schedule = s.schedule ∧
    t.thereafter = s.thereafter ∧ t.freeCount = s.freeCount ∧
    (t.trace = s.trace ∨ ∃ q : Request, encode i = .txn q.word ∧ t.trace = s.trace ++ [⟨q, none⟩])

/-! ## The steps of the host and of the block -/

/-- 10_state R42: `Issue(w)` with `op = w[1:0]` and `g = w[2]`. -/
def Obligations.IssueLatchesTheCommandWord : Prop :=
  ∀ (s : State) (w : CmdWord) (rest : List Event), s.schedule = .issue w :: rest →
    (s.busy = false →
      step s = .next { s with
        busy := true
        done := false
        cmd := Cmd.ofCode (w.extractLsb' 0 2)
        useG := w.getLsbD 2
        pc := entry (Cmd.ofCode (w.extractLsb' 0 2))
        pollCount := 0
        schedule := rest }) ∧
    (s.busy = true → ∀ t, step s = .next t → t = { s with schedule := rest })

/-- 10_state R43: `TxnIssue` puts on the transport the request the ROM gives for `pc`, to `DEV_ADDR`; it changes
`inflight` and the trace only, and it is not enabled without a command in flight or with a request outstanding. -/
def Obligations.BlockIssuesTheRequestAtPc : Prop :=
  ∀ (s : State) (m : MicroOp) (rest : List Event), s.schedule = .txnIssue :: rest → microOpAt s.pc = some m →
    (s.busy = true → s.inflight = false →
      step s = .next { s with
        inflight := true
        trace := s.trace ++ [⟨⟨m.kind, s.cfg.devAddr, m.reg s.cfg, m.wdata s.cfg⟩, none⟩]
        schedule := rest }) ∧
    (s.busy = false ∨ s.inflight = true → ∀ t, step s = .next t → t = { s with schedule := rest })

/-- 30_encoding R86: the nineteen rows of the sequence ROM. -/
def Obligations.SequenceRomHoldsNineteenRows : Prop :=
  ∀ c : Config, (List.range 19).map (fun p => (microOpAt (BitVec.ofNat 5 p)).map (MicroOp.request c)) =
    [ some ⟨.rd, c.devAddr, c.regWhoAmI, 0x00⟩,
      some ⟨.wr, c.devAddr, c.regCtrl2, c.bReset⟩,
      some ⟨.rd, c.devAddr, c.regCtrl2, 0x00⟩,
      some ⟨.wr, c.devAddr, c.regFSetup, 0x00⟩,
      some ⟨.wr, c.devAddr, c.regCtrl2, c.vHires⟩,
      some ⟨.wr, c.devAddr, c.regCtrl1, c.vStandby⟩,
      some ⟨.wr, c.devAddr, c.regTransientCfg, c.vTransCfg⟩,
      some ⟨.wr, c.devAddr, c.regTransientThs, c.vTransThs⟩,
      some ⟨.wr, c.devAddr, c.regTransientCount, c.vTransCount⟩,
      some ⟨.wr, c.devAddr, c.regCtrl4, c.vIntEn⟩,
      some ⟨.wr, c.devAddr, c.regCtrl5, c.vIntMap⟩,
      some ⟨.wr, c.devAddr, c.regXyzDataCfg, c.vDataCfg⟩,
      some ⟨.rd, c.devAddr, c.regCtrl1, 0x00⟩,
      some ⟨.wr, c.devAddr, c.regCtrl1, c.vActive⟩,
      some ⟨.wr, c.devAddr, c.regPlCfg, c.vPlEn⟩,
      some ⟨.rd, c.devAddr, c.regTransientSrc, 0x00⟩,
      some ⟨.wr, c.devAddr, c.regOutXMsb, 0x00⟩,
      some ⟨.rdblk, c.devAddr, c.regOutXMsb, 0x00⟩,
      some ⟨.rd, c.devAddr, c.regPlStatus, 0x00⟩ ]

/-! ## The micro-ops of INIT -/

/-- 41_init R118: the identity check, on all eight bits. -/
def Obligations.IdentityReadAdmitsOnlyTheDeviceId : Prop :=
  ∀ (s : State) (r : RspWord) (rest : List Event), OnTurn s 0 r rest → rspErr r = false →
    (rspByte r = 0x1A →
      run 2 s = .next { s with
        pc := 1
        inflight := false
        trace := s.trace ++ [⟨⟨.rd, s.cfg.devAddr, s.cfg.regWhoAmI, 0⟩, some (.okByte (rspByte r))⟩]
        schedule := rest }) ∧
    (rspByte r ≠ 0x1A →
      run 2 s = .next { s with
        status := .deviceNotFound
        busy := false
        done := true
        dstate := .uninitialized
        inflight := false
        trace := s.trace ++ [⟨⟨.rd, s.cfg.devAddr, s.cfg.regWhoAmI, 0⟩, some (.okByte (rspByte r))⟩]
        schedule := rest })

/-- 41_init R119: the reset write. -/
def Obligations.ResetWriteEntersResetting : Prop :=
  ∀ (s : State) (r : RspWord) (rest : List Event), OnTurn s 1 r rest → rspErr r = false →
    run 2 s = .next { s with
      dstate := .resetting
      pollCount := 0
      pc := 2
      inflight := false
      trace := s.trace ++ [⟨⟨.wr, s.cfg.devAddr, s.cfg.regCtrl2, s.cfg.bReset⟩, some .okWrite⟩]
      schedule := rest }

/-- 41_init R120: one poll read: bit clear, bit set below the limit, bit set at the limit. -/
def Obligations.PollReadTestsTheResetBit : Prop :=
  ∀ (s : State) (r : RspWord) (rest : List Event), OnTurn s 2 r rest → rspErr r = false →
    let trace' := s.trace ++ [⟨⟨.rd, s.cfg.devAddr, s.cfg.regCtrl2, 0⟩, some (.okByte (rspByte r))⟩]
    (rspByte r &&& s.cfg.bReset = 0 →
      run 2 s = .next { s with pc := 3, inflight := false, trace := trace', schedule := rest }) ∧
    (rspByte r &&& s.cfg.bReset ≠ 0 → s.cfg.pollLimit = none →
      run 2 s = .next { s with inflight := false, trace := trace', schedule := rest }) ∧
    (∀ n, rspByte r &&& s.cfg.bReset ≠ 0 → s.cfg.pollLimit = some n → s.pollCount + 1 < n →
      run 2 s = .next { s with
        pollCount := s.pollCount + 1, inflight := false, trace := trace', schedule := rest }) ∧
    (∀ n, rspByte r &&& s.cfg.bReset ≠ 0 → s.cfg.pollLimit = some n → n ≤ s.pollCount + 1 →
      run 2 s = .next { s with
        status := .protocolTimeout
        busy := false
        done := true
        dstate := .uninitialized
        inflight := false
        trace := trace'
        schedule := rest })

/-- 41_init R122 to R129: the eight configuration writes that only fall through. -/
def Obligations.ConfigurationWritesFallThrough : Prop :=
  WriteFallsThrough 3 4 Config.regFSetup (fun _ => 0x00) ∧
  WriteFallsThrough 4 5 Config.regCtrl2 Config.vHires ∧
  WriteFallsThrough 5 6 Config.regCtrl1 Config.vStandby ∧
  WriteFallsThrough 6 7 Config.regTransientCfg Config.vTransCfg ∧
  WriteFallsThrough 7 8 Config.regTransientThs Config.vTransThs ∧
  WriteFallsThrough 8 9 Config.regTransientCount Config.vTransCount ∧
  WriteFallsThrough 9 10 Config.regCtrl4 Config.vIntEn ∧
  WriteFallsThrough 10 11 Config.regCtrl5 Config.vIntMap

/-- 41_init R130: the range and output mode write enters `Configured`. -/
def Obligations.RangeWriteEntersConfigured : Prop :=
  ∀ (s : State) (r : RspWord) (rest : List Event), OnTurn s 11 r rest → rspErr r = false →
    run 2 s = .next { s with
      dstate := .configured
      pc := 12
      inflight := false
      trace := s.trace ++ [⟨⟨.wr, s.cfg.devAddr, s.cfg.regXyzDataCfg, s.cfg.vDataCfg⟩, some .okWrite⟩]
      schedule := rest }

/-- 41_init R131: the diagnostic read-back, whatever the byte. -/
def Obligations.ReadBackKeepsTheByteInDiag : Prop :=
  ∀ (s : State) (r : RspWord) (rest : List Event), OnTurn s 12 r rest → rspErr r = false →
    run 2 s = .next { s with
      diag := rspByte r
      pc := 13
      inflight := false
      trace := s.trace ++ [⟨⟨.rd, s.cfg.devAddr, s.cfg.regCtrl1, 0⟩, some (.okByte (rspByte r))⟩]
      schedule := rest }

/-- 41_init R132: the activation writes the constant `V_ACTIVE`, whatever `diag` holds, and enters `Active`. -/
def Obligations.ActivationWriteEntersActive : Prop :=
  ∀ (s : State) (r : RspWord) (rest : List Event), OnTurn s 13 r rest → rspErr r = false →
    run 2 s = .next { s with
      dstate := .active
      pc := 14
      inflight := false
      trace := s.trace ++ [⟨⟨.wr, s.cfg.devAddr, s.cfg.regCtrl1, s.cfg.vActive⟩, some .okWrite⟩]
      schedule := rest }

/-- 41_init R133: the orientation write ends `INIT` with `OK`; `pc` and `dstate` stay. -/
def Obligations.OrientationWriteFinishesInit : Prop :=
  ∀ (s : State) (r : RspWord) (rest : List Event), OnTurn s 14 r rest → rspErr r = false →
    run 2 s = .next { s with
      status := .ok
      busy := false
      done := true
      inflight := false
      trace := s.trace ++ [⟨⟨.wr, s.cfg.devAddr, s.cfg.regPlCfg, s.cfg.vPlEn⟩, some .okWrite⟩]
      schedule := rest }

/-! ## The micro-ops of the read commands -/

/-- 42_transient_source R146: all eight bits are kept; on `Err` the register keeps its value. -/
def Obligations.TransientReadKeepsTheRawByte : Prop :=
  ∀ (s : State) (r : RspWord) (rest : List Event), OnTurn s 15 r rest →
    (rspErr r = false →
      run 2 s = .next { s with
        resByte := rspByte r
        status := .ok
        busy := false
        done := true
        inflight := false
        trace := s.trace ++ [⟨⟨.rd, s.cfg.devAddr, s.cfg.regTransientSrc, 0⟩, some (.okByte (rspByte r))⟩]
        schedule := rest }) ∧
    (rspErr r = true →
      run 2 s = .next { s with
        status := .transportError
        busy := false
        done := true
        dstate := .uninitialized
        inflight := false
        trace := s.trace ++ [⟨⟨.rd, s.cfg.devAddr, s.cfg.regTransientSrc, 0⟩, some .err⟩]
        schedule := rest })

/-- 43_acceleration R152: the block read fills the sample, and the three lanes unpack, scale and tag it. The numerators
are stated by the document's integers (44_unpack_scale R161, R162, R168): `u` is the 14-bit value of a pair. -/
def Obligations.BlockReadUnpacksAndScales : Prop :=
  ∀ (s : State) (r : RspWord) (rest : List Event), OnTurn s 17 r rest → rspErr r = false →
    let b := rspSample r
    let count (msb lsb : Byte) : Int :=
      let u := 64 * msb.toNat + lsb.toNat / 4
      if u > 8191 then (u : Int) - 16384 else (u : Int)
    let result (msb lsb : Byte) : Numerator :=
      BitVec.ofInt 34 (count msb lsb * if s.useG then 1 else 980655)
    run 2 s = .next { s with
      sample := b
      resX := result b.b0 b.b1
      resY := result b.b2 b.b3
      resZ := result b.b4 b.b5
      unit := s.useG
      status := .ok
      busy := false
      done := true
      inflight := false
      trace := s.trace ++ [⟨⟨.rdblk, s.cfg.devAddr, s.cfg.regOutXMsb, 0⟩, some (.okBlock b)⟩]
      schedule := rest }

/-- 45_orientation R181: the low three bits are kept, bits 7 to 3 are 0; on `Err` the register keeps its value. -/
def Obligations.OrientationReadKeepsThreeBits : Prop :=
  ∀ (s : State) (r : RspWord) (rest : List Event), OnTurn s 18 r rest →
    (rspErr r = false →
      run 2 s = .next { s with
        resByte := ((rspByte r).extractLsb' 0 3).setWidth 8
        status := .ok
        busy := false
        done := true
        inflight := false
        trace := s.trace ++ [⟨⟨.rd, s.cfg.devAddr, s.cfg.regPlStatus, 0⟩, some (.okByte (rspByte r))⟩]
        schedule := rest }) ∧
    (rspErr r = true →
      run 2 s = .next { s with
        status := .transportError
        busy := false
        done := true
        dstate := .uninitialized
        inflight := false
        trace := s.trace ++ [⟨⟨.rd, s.cfg.devAddr, s.cfg.regPlStatus, 0⟩, some .err⟩]
        schedule := rest })

/-- 60_exceptions R187, 41_init R134: `Err` at any of the nineteen micro-ops ends the command with `TransportError`;
`pc`, `poll_count` and every payload register stay (R190, R191). -/
def Obligations.TransportErrorFailsEveryMicroOp : Prop :=
  ∀ (s : State) (m : MicroOp) (r : RspWord) (rest : List Event), OnTurn s m.addr r rest → rspErr r = true →
    run 2 s = .next { s with
      status := .transportError
      busy := false
      done := true
      dstate := .uninitialized
      inflight := false
      trace := s.trace ++ [⟨⟨m.kind, s.cfg.devAddr, m.reg s.cfg, m.wdata s.cfg⟩, some .err⟩]
      schedule := rest }

/-! ## Whole commands -/

/-- 41_init R116, R135: a whole successful `INIT`: its exact trace, its length, and the state it leaves. -/
def Obligations.InitRunsItsWholeSequence : Prop :=
  ∀ (s : State) (g : Bool) (idR wrR clearR : RspWord) (polls tail : List RspWord) (rest : List Event),
    s.busy = false → s.inflight = false →
    (∀ n, s.cfg.pollLimit = some n → polls.length < n) →
    rspErr idR = false → rspByte idR = 0x1A → rspErr wrR = false →
    (∀ p ∈ polls, ShowsResetPending s.cfg p) →
    ShowsResetDone s.cfg clearR →
    tail.length = 12 → (∀ p ∈ tail, rspErr p = false) →
    s.schedule = .issue (commandWord .init g) :: (answering (idR :: wrR :: (polls ++ clearR :: tail)) ++ rest) →
    ∃ t, run (1 + 2 * (15 + polls.length)) s = .next t ∧
      t.busy = false ∧ t.done = true ∧ t.inflight = false ∧ t.cmd = .init ∧ t.useG = g ∧ t.pc = 14 ∧
      t.dstate = .active ∧ t.status = .ok ∧ t.ready = true ∧ t.resultValid = true ∧ t.diag = rspByte (tail.getD 9 0) ∧
      t.sample = s.sample ∧ t.resByte = s.resByte ∧ t.resX = s.resX ∧ t.resY = s.resY ∧ t.resZ = s.resZ ∧
      t.unit = s.unit ∧ t.cfg = s.cfg ∧ t.schedule = rest ∧ t.thereafter = s.thereafter ∧
      t.trace = s.trace ++
        List.zipWith (entryOf s.cfg) (initOps (polls.length + 1)) (idR :: wrR :: (polls ++ clearR :: tail)) ∧
      t.trace.length = s.trace.length + 14 + (polls.length + 1)

/-- 41_init R120, 60_exceptions R188: a poll whose bit stays set ends with `ProtocolTimeout` at exactly the read the
limit allows last, and goes on before it. -/
def Obligations.BoundedPollTimesOutAtTheLimit : Prop :=
  ∀ (s : State) (n : Nat) (polls : List RspWord) (rest : List Event),
    s.busy = true → s.inflight = false → s.pc = 2 → s.cfg.pollLimit = some n →
    (∀ p ∈ polls, ShowsResetPending s.cfg p) →
    s.schedule = answering polls ++ rest →
    (s.pollCount + polls.length < n →
      run (2 * polls.length) s = .next { s with
        pollCount := s.pollCount + polls.length
        trace := s.trace ++ polls.map (entryOf s.cfg .i2p)
        schedule := rest }) ∧
    (s.pollCount < n → s.pollCount + polls.length = n →
      run (2 * polls.length) s = .next { s with
        pollCount := n - 1
        status := .protocolTimeout
        busy := false
        done := true
        dstate := .uninitialized
        trace := s.trace ++ polls.map (entryOf s.cfg .i2p)
        schedule := rest })

/-- 70_reset_and_hazards R226, R233 (b): without a limit, while the chip keeps the bit set, `INIT` stays at the poll, and
it does so for ever: over any number of rounds of answers that repeat without end, from the poll and from the `INIT`
itself, with one `RD REG_CTRL2` after the other and the command in flight in every state on the way. -/
def Obligations.UnboundedPollNeverEnds : Prop :=
  (∀ (s : State) (polls : List RspWord) (rest : List Event),
    s.busy = true → s.inflight = false → s.pc = 2 → s.cfg.pollLimit = none →
    (∀ p ∈ polls, ShowsResetPending s.cfg p) →
    s.schedule = answering polls ++ rest →
    run (2 * polls.length) s = .next { s with
      trace := s.trace ++ polls.map (entryOf s.cfg .i2p)
      schedule := rest }) ∧
  (∀ (s : State) (polls : List RspWord), PollsForEver s polls →
    (∀ k, run (k * (2 * polls.length)) s = .next { s with
      trace := s.trace ++ (List.replicate k (polls.map (entryOf s.cfg .i2p))).flatten }) ∧
    (∀ n, ∃ t, run n s = .next t ∧ t.busy = true ∧ t.pc = 2 ∧ t.done = s.done ∧ t.status = s.status)) ∧
  (∀ (s : State) (g : Bool) (idR wrR : RspWord) (polls : List RspWord),
    s.busy = false → s.inflight = false → s.cfg.pollLimit = none →
    rspErr idR = false → rspByte idR = 0x1A → rspErr wrR = false →
    polls ≠ [] → (∀ p ∈ polls, ShowsResetPending s.cfg p) →
    s.schedule = .issue (commandWord .init g) :: answering [idR, wrR] → s.thereafter = .repeating (answering polls) →
    ∀ k, run (5 + k * (2 * polls.length)) s = .next { s with
      busy := true
      done := false
      cmd := .init
      useG := g
      pc := 2
      pollCount := 0
      dstate := .resetting
      trace := s.trace ++ [entryOf s.cfg .i1 idR, entryOf s.cfg .i2w wrR] ++
        (List.replicate k (polls.map (entryOf s.cfg .i2p))).flatten
      schedule := [] })

/-- 42_transient_source R145: a whole `RDTSRC`, one transaction, whatever the transport answers. -/
def Obligations.RdtsrcRunsOneTransaction : Prop :=
  ∀ (s : State) (g : Bool) (r : RspWord) (rest : List Event), s.busy = false → s.inflight = false →
    s.schedule = .issue (commandWord .rdtsrc g) :: .txnIssue :: .txnComplete r :: rest →
    run 3 s = .next { s with
      done := true
      cmd := .rdtsrc
      useG := g
      pc := 15
      pollCount := 0
      dstate := if rspErr r then .uninitialized else s.dstate
      status := if rspErr r then .transportError else .ok
      resByte := if rspErr r then s.resByte else rspByte r
      trace := s.trace ++ [entryOf s.cfg .t1 r]
      schedule := rest }

/-- 45_orientation R180: a whole `GETORI`, one transaction, whatever the transport answers. -/
def Obligations.GetoriRunsOneTransaction : Prop :=
  ∀ (s : State) (g : Bool) (r : RspWord) (rest : List Event), s.busy = false → s.inflight = false →
    s.schedule = .issue (commandWord .getori g) :: .txnIssue :: .txnComplete r :: rest →
    run 3 s = .next { s with
      done := true
      cmd := .getori
      useG := g
      pc := 18
      pollCount := 0
      dstate := if rspErr r then .uninitialized else s.dstate
      status := if rspErr r then .transportError else .ok
      resByte := if rspErr r then s.resByte else rspByte r &&& 0x07
      trace := s.trace ++ [entryOf s.cfg .o1 r]
      schedule := rest }

/-- 43_acceleration R150, R151, R154: a whole `GETACC`: one write of 0 to the X-high-byte register and, directly after
it, one block read; the reading is of that block read alone, in the unit of the command. -/
def Obligations.GetaccRunsLatchThenBlockRead : Prop :=
  ∀ (s : State) (g : Bool) (rA rB : RspWord) (rest : List Event), s.busy = false → s.inflight = false →
    rspErr rA = false → rspErr rB = false →
    s.schedule = .issue (commandWord .getacc g) :: (answering [rA, rB] ++ rest) →
    run 5 s = .next { s with
      done := true
      cmd := .getacc
      useG := g
      pc := 17
      pollCount := 0
      status := .ok
      sample := rspSample rB
      resX := axisResult (rspSample rB).b0 (rspSample rB).b1 g
      resY := axisResult (rspSample rB).b2 (rspSample rB).b3 g
      resZ := axisResult (rspSample rB).b4 (rspSample rB).b5 g
      unit := g
      trace := s.trace ++
        [⟨⟨.wr, s.cfg.devAddr, s.cfg.regOutXMsb, 0x00⟩, some .okWrite⟩,
         ⟨⟨.rdblk, s.cfg.devAddr, s.cfg.regOutXMsb, 0x00⟩, some (.okBlock (rspSample rB))⟩]
      schedule := rest }

/-- 43_acceleration R155: `Err` at A1, where A2 is not issued, and `Err` at A2. -/
def Obligations.FailedGetaccKeepsTheOldReading : Prop :=
  ∀ (s : State) (g : Bool) (rA rB : RspWord) (rest : List Event), s.busy = false → s.inflight = false →
    let failed (pc : BitVec 5) (es : List TraceEntry) : State :=
      { s with
        done := true
        cmd := .getacc
        useG := g
        pc := pc
        pollCount := 0
        dstate := .uninitialized
        status := .transportError
        trace := s.trace ++ es
        schedule := rest }
    (rspErr rA = true → s.schedule = .issue (commandWord .getacc g) :: (answering [rA] ++ rest) →
      run 3 s = .next (failed 16 [⟨⟨.wr, s.cfg.devAddr, s.cfg.regOutXMsb, 0⟩, some .err⟩])) ∧
    (rspErr rA = false → rspErr rB = true →
      s.schedule = .issue (commandWord .getacc g) :: (answering [rA, rB] ++ rest) →
      run 5 s = .next (failed 17
        [⟨⟨.wr, s.cfg.devAddr, s.cfg.regOutXMsb, 0⟩, some .okWrite⟩,
         ⟨⟨.rdblk, s.cfg.devAddr, s.cfg.regOutXMsb, 0⟩, some .err⟩]))

/-- 70_reset_and_hazards R232: with a poll limit `n`, every command, whatever the transport answers, ends after at most
`14 + n` answered transactions. -/
def Obligations.EveryCommandEndsWithinItsBound : Prop :=
  ∀ (s : State) (w : CmdWord) (n : Nat) (rs : List RspWord),
    s.busy = false → s.inflight = false → s.cfg.pollLimit = some n → 0 < n → rs.length = 14 + n →
    s.schedule = .issue w :: answering rs →
    ∃ k t, 0 < k ∧ k ≤ 14 + n ∧ run (1 + 2 * k) s = .next t ∧ t.busy = false ∧ t.done = true ∧
      t.trace.length = s.trace.length + k

/-! ## Reset and waiting -/

/-- 70_reset_and_hazards R215: what the state right after reset holds in every register with a stated reset value. That
the configuration it holds meets the constraints is the model's construction (log entry 2). -/
def Obligations.ResetStateHoldsTheStatedValues : Prop :=
  State.reset.busy = false ∧ State.reset.done = false ∧ State.reset.inflight = false ∧
  State.reset.cmd.code = 0 ∧ State.reset.useG = false ∧ State.reset.pc = 0 ∧ State.reset.pollCount = 0 ∧
  State.reset.dstate.code = 0 ∧ State.reset.status.code = 0 ∧ State.reset.trace = [] ∧
  State.reset.cfg.wf = true

/-- 10_state R41, 70_reset_and_hazards R215 to R217: a `Reset` in any state, with a request outstanding or not: every
register with a stated reset value takes it, the trace restarts, nothing is issued, `CFG` is unaffected. What the
payload registers then hold is not said. -/
def Obligations.ResetStepRestoresControlState : Prop :=
  ∀ (s : State) (rest : List Event), s.schedule = .reset :: rest →
    ∃ t, step s = .next t ∧ t.busy = false ∧ t.done = false ∧ t.inflight = false ∧ t.cmd.code = 0 ∧
      t.useG = false ∧ t.pc = 0 ∧ t.pollCount = 0 ∧ t.dstate.code = 0 ∧ t.status.code = 0 ∧ t.trace = [] ∧
      t.cfg = s.cfg ∧ t.schedule = rest ∧ t.thereafter = s.thereafter

/-- 40_transport R107, 70_reset_and_hazards R233 (a), R216, 10_state R45: with nothing to come, a block whose transport
never answers, and an idle block to which nothing is presented, stay as they are for any number of steps; and a block
with a request outstanding stays as it is for ever under any commands and turns that come, without a response or a
`Reset`. That such a state steps to itself, and a disabled event to the state without it, is the model's choice (log
entries 1, 6 and 10). -/
def Obligations.NothingMovesWithoutAnEvent : Prop :=
  ∀ (s : State) (n : Nat),
    (s.schedule = [] → s.thereafter = .repeating [] → s.inflight = true ∨ s.busy = false → run n s = .next s) ∧
    (s.busy = true → s.inflight = true → TransportSilent s → ∃ rest, run n s = .next { s with schedule := rest })

/-- 10_state R40, 70_reset_and_hazards R217: an event whose step is not enabled, a response that nothing asked for among
them, changes nothing: the step answers the state without the event, in which only what is to come is another. That it
is taken away is the model's choice (log entry 6). -/
def Obligations.DisabledEventsChangeNothing : Prop :=
  ∀ (s u : State) (e : Event), s.pick = some (e, u) → s.enables e = false →
    step s = .next u ∧ u = { s with schedule := u.schedule, thereafter := u.thereafter }

/-! ## Invariants -/

/-- 10_state R37 (a), (b), (c), (d), (f): every step keeps them. -/
def Obligations.EveryStepKeepsTheControlInvariant : Prop :=
  ∀ s t : State, ControlInv s → step s = .next t → ControlInv t

/-- 40_transport R104, R105, R108: every step keeps one transaction at a time, each out of the ROM, to `DEV_ADDR` and
answered by its own type. -/
def Obligations.EveryStepKeepsTheTraceInvariant : Prop :=
  ∀ s t : State, ControlInv s → TraceInv s → step s = .next t → TraceInv t

/-- 20_memory R71, 41_init R116, 43_acceleration R154: every step keeps the trace in the order of the micro-programs. -/
def Obligations.EveryStepKeepsTheLegalOrder : Prop :=
  ∀ s t : State, Inv s → step s = .next t → OrderInv t

/-- 70_reset_and_hazards R221 to R223, 43_acceleration R154: in a trace of the legal order no hazard of the chip is met. -/
def Obligations.LegalOrderKeepsTheHazards : Prop :=
  ∀ s : State, OrderInv s →
    ∃ ps : List (MicroOp × Option Response), s.trace = ps.map (labelled s.cfg) ∧
      ∀ before m r after, ps = before ++ (m, r) :: after → HazardsKept s.cfg before m

/-- 10_state R37 (e), R38: every step keeps: `Active` outside an `INIT` means that an `INIT` has ended with `OK` since
the last reset and that no command has failed since. -/
def Obligations.EveryStepKeepsActiveMeansInitSucceeded : Prop :=
  ∀ (s t : State) (good : Bool), ControlInv s → ActiveInv s good → step s = .next t → ActiveInv t (initGood s t good)

/-- The invariants hold right after reset, with no successful `INIT` on record. -/
def Obligations.InvariantsHoldAtReset : Prop :=
  Inv State.reset ∧ ActiveInv State.reset false

/-- From a state that meets the invariant the machine never stops: every step answers a next state (60_exceptions
R185: no other failure exists; an event that is not enabled changes nothing, the model's choice, log entry 6). -/
def Obligations.MachineNeverStops : Prop :=
  ∀ s : State, ControlInv s → ∃ t, step s = .next t

/-! ## Rules of the whole machine -/

/-- 00_scope R7, 20_memory R74: no step changes the configuration, nor the request the ROM holds at any place. -/
def Obligations.NoStepChangesTheConfiguration : Prop :=
  ∀ s t : State, step s = .next t → t.cfg = s.cfg ∧ ∀ m : MicroOp, m.request t.cfg = m.request s.cfg

/-- 10_state R27: the only writes of `dstate`. -/
def Obligations.DriverStateIsWrittenOnlyAsStated : Prop :=
  ∀ s t : State, ControlInv s → step s = .next t → t.dstate ≠ s.dstate →
    (t.dstate = .resetting → AnsweredOk s 1) ∧
    (t.dstate = .configured → AnsweredOk s 11) ∧
    (t.dstate = .active → AnsweredOk s 13) ∧
    (t.dstate = .uninitialized → resets s = true ∨ (endsIn s t = true ∧ t.status ≠ .ok))

/-- 10_state R30 to R34: leaving `Reset` aside, a payload register is written only by the successful completion of the
micro-op named for it. -/
def Obligations.PayloadIsWrittenOnlyAsStated : Prop :=
  ∀ s t : State, step s = .next t → resets s = false →
    (t.diag ≠ s.diag → AnsweredOk s 12) ∧
    (t.resByte ≠ s.resByte → AnsweredOk s 15 ∨ AnsweredOk s 18) ∧
    (t.sample ≠ s.sample ∨ t.resX ≠ s.resX ∨ t.resY ≠ s.resY ∨ t.resZ ≠ s.resZ ∨ t.unit ≠ s.unit → AnsweredOk s 17)

/-- 10_state R21, R22, R28: leaving `Reset` aside, `status` is written only by the step that ends a command, which sets
`done`; only an accepted command clears `done`. -/
def Obligations.ResultFlagsChangeOnlyAtCommandEnds : Prop :=
  ∀ s t : State, ControlInv s → step s = .next t → resets s = false →
    (endsIn s t = true → t.done = true) ∧
    (endsIn s t = false → t.status = s.status) ∧
    (t.done ≠ s.done → endsIn s t = true ∨ (s.busy = false ∧ t.busy = true))

/-- 60_exceptions R200, 43_acceleration R153: neither the driver state nor a result of an earlier command refuses, delays
or alters a transaction: two states that agree on the sequencer go on agreeing. -/
def Obligations.DriverStateNeverGatesATransaction : Prop :=
  ∀ s s' t : State, SameControl s s' → step s = .next t → ∃ t', step s' = .next t' ∧ SameControl t t'

/-! ## The unpacker and the scaler -/

/-- 44_unpack_scale R161, R162. -/
def Obligations.UnpackerReadsFourteenBits : Prop :=
  ∀ msb lsb : Byte,
    raw14 msb lsb = msb ++ lsb.extractLsb' 2 6 ∧
    (raw14 msb lsb).toNat = 64 * msb.toNat + lsb.toNat / 4 ∧
    (raw14 msb lsb).toNat ≤ 16383 ∧
    (raw14 msb lsb).getLsbD 13 = msb.getLsbD 7 ∧
    unpack14 msb lsb = (if (raw14 msb lsb).toNat > 8191 then ((raw14 msb lsb).toNat : Int) - 16384
      else ((raw14 msb lsb).toNat : Int)) ∧
    unpack14 msb lsb = (raw14 msb lsb).toInt ∧
    -8192 ≤ unpack14 msb lsb ∧ unpack14 msb lsb ≤ 8191 ∧
    (unpack14 msb lsb < 0 ↔ msb.getLsbD 7 = true)

/-- 44_unpack_scale R163: the three equivalent forms. -/
def Obligations.UnpackerHasThreeEquivalentForms : Prop :=
  ∀ msb lsb : Byte,
    unpack14 msb lsb = (msb ++ lsb).toInt / 4 ∧
    (∀ n, 14 ≤ n → unpack14 msb lsb = ((msb ++ lsb.extractLsb' 2 6).signExtend n).toInt) ∧
    unpack14 msb lsb = 64 * msb.toInt + ((lsb.extractLsb' 2 6).toNat : Int)

/-- 44_unpack_scale R165: the round trip in both directions, and the preimages of a value: the pairs that are its
encoding up to the two reserved bits, which do not reach the result (R164). -/
def Obligations.UnpackerRoundTrip : Prop :=
  (∀ v : Int, -8192 ≤ v → v ≤ 8191 → unpack14 (encode14 v).1 (encode14 v).2 = v) ∧
  (∀ msb lsb : Byte, encode14 (unpack14 msb lsb) = (msb, lsb &&& 0xFC)) ∧
  (∀ v : Int, -8192 ≤ v → v ≤ 8191 → ∀ msb lsb : Byte,
    unpack14 msb lsb = v ↔ msb = (encode14 v).1 ∧ lsb &&& 0xFC = (encode14 v).2)

/-- 44_unpack_scale R168, R169: the product is exact in 34 bits and 34 is the least width that holds every result. -/
def Obligations.ScaledNumeratorIsExact : Prop :=
  (∀ (s : Int) (u : Bool), -8192 ≤ s → s ≤ 8191 →
    (numeratorOf (scale s u)).toInt = s * (if u then 1 else 980655) ∧
    -8033525760 ≤ scale s u ∧ scale s u ≤ 8032545105) ∧
  scale (-8192) false = -8033525760 ∧ scale 8191 false = 8032545105 ∧
  scale (-8192) true = -8192 ∧ scale 8191 true = 8191 ∧
  (∀ w : Nat, (∀ (s : Int) (u : Bool), -8192 ≤ s → s ≤ 8191 → (BitVec.ofInt w (scale s u)).toInt = scale s u) →
    34 ≤ w)

/-- 44_unpack_scale R170: the value of a result is the exact rational of the document's formula, in both units, within
the stated ranges. -/
def Obligations.ResultValueIsTheExactRational : Prop :=
  ∀ s : Int, -8192 ≤ s → s ≤ 8191 →
    resultValue (numeratorOf (scale s true)) true = (s : Rat) / 2048 ∧
    resultValue (numeratorOf (scale s false)) false = (s : Rat) / 2048 * (980655 / 100000) ∧
    -4 ≤ resultValue (numeratorOf (scale s true)) true ∧
    resultValue (numeratorOf (scale s true)) true ≤ 399951171875 / 100000000000 ∧
    -(392262 / 10000) ≤ resultValue (numeratorOf (scale s false)) false ∧
    resultValue (numeratorOf (scale s false)) false ≤ 392214116455078125 / 10000000000000000

/-- 44_unpack_scale R172, R174 (b): zero and only zero scales to zero; the scaler is odd and strictly increasing. -/
def Obligations.ScalerKeepsZeroSignAndOrder : Prop :=
  ∀ (s s' : Int) (u : Bool),
    (scale s u = 0 ↔ s = 0) ∧ scale (-s) u = -scale s u ∧ (s < s' ↔ scale s u < scale s' u)

/-- 43_acceleration R156: a lane gives exactly zero, in both units, when its high byte is 0 and its low byte at most 3,
and for no other pair. -/
def Obligations.ZeroBytesGiveExactlyZero : Prop :=
  ∀ (msb lsb : Byte) (u : Bool), axisResult msb lsb u = 0 ↔ msb = 0 ∧ lsb.toNat ≤ 3
end

