-- ==== Sys2Proof/Laws/Config.lean ====
section
/-!
SUPPORT. `Config.lawful` names exactly the configurations of this hardware (20_memory R54, R56).
-/

namespace Sys2Proof

/-- Every value of `Config.lawful` meets the constraints. -/
theorem Config.lawful_wf (c : Config) : c.lawful.wf = true := by
  have other (a : DevAddr) : a ≠ ~~~ a := by revert a; decide
  simp only [Config.lawful, Config.wf, Bool.and_eq_true]
  refine ⟨⟨⟨?_, ?_⟩, ?_⟩, ?_⟩ <;> split
  · simp [other]
  · rename_i h; simpa using fun e => h (Eq.symm e)
  all_goals simp_all

/-- A configuration that meets the constraints is left as it is. -/
theorem Config.lawful_of_wf (c : Config) (h : c.wf = true) : c.lawful = c := by
  simp only [Config.wf, Bool.and_eq_true, decide_eq_true_eq] at h
  obtain ⟨⟨⟨addrs, block⟩, reset⟩, limit⟩ := h
  simp only [Config.lawful, if_neg (Ne.symm addrs), if_pos block, if_neg reset, if_neg limit]

end Sys2Proof
end

