-- ==== Sys2Proof/Laws/Decode.lean ====
section
/-!
SUPPORT. The fields of the packed words (30_encoding R80, R84).
-/

namespace Sys2Proof

@[simp] theorem Cmd.ofCode_code (c : Cmd) : Cmd.ofCode c.code = c := by
  cases c <;> rfl

@[simp] theorem commandWord_code (c : Cmd) (g : Bool) : (commandWord c g).extractLsb' 0 2 = c.code := by
  cases c <;> cases g <;> rfl

@[simp] theorem commandWord_operand (c : Cmd) (g : Bool) : (commandWord c g)[2] = g := by
  cases c <;> cases g <;> rfl

theorem Request.word_kind (q : Request) : q.word.extractLsb' 23 2 = q.kind.code := by
  simp only [Request.word]
  rw [BitVec.extractLsb'_append_eq_of_le (by omega), BitVec.extractLsb'_append_eq_of_le (by omega),
    BitVec.extractLsb'_append_eq_of_le (by omega)]
  simp

theorem Request.word_dev (q : Request) : q.word.extractLsb' 16 7 = q.dev := by
  simp only [Request.word]
  rw [BitVec.extractLsb'_append_eq_of_le (by omega), BitVec.extractLsb'_append_eq_of_le (by omega),
    BitVec.extractLsb'_append_eq_of_add_le (by omega)]
  simp

theorem Request.word_reg (q : Request) : q.word.extractLsb' 8 8 = q.reg := by
  simp only [Request.word]
  rw [BitVec.extractLsb'_append_eq_of_le (by omega), BitVec.extractLsb'_append_eq_of_add_le (by omega)]
  simp

theorem Request.word_wdata (q : Request) : q.word.extractLsb' 0 8 = q.wdata := by
  simp only [Request.word]
  rw [BitVec.extractLsb'_append_eq_of_add_le (by omega)]
  simp

/-- The instruction of a request (30_encoding R84). -/
def Request.instr (q : Request) : Instr :=
  match q.kind with
  | .rd => .rd q.dev q.reg
  | .wr => .wr q.dev q.reg q.wdata
  | .rdblk => .rdblk q.dev q.reg

/-- A request that carries data only if it writes decodes to its instruction. -/
theorem decodeRequest_word (q : Request) (h : q.kind = .wr ∨ q.wdata = 0) : decodeRequest q.word = .ok q.instr := by
  obtain ⟨k, dev, reg, w⟩ := q
  cases k <;> rcases h with h | h <;>
    simp_all [decodeRequest, Request.word_kind, Request.word_dev, Request.word_reg, Request.word_wdata, Kind.code,
      Request.instr]

end Sys2Proof
end

