-- ==== Sys2Proof/Laws/Operands.lean ====
section
/-!
SUPPORT. The datapath of A2 in integers: what an axis pair assembles to, what the scaler multiplies by, and that the
34-bit register holds a product (44_unpack_scale R161, R168, R169).
-/

namespace Sys2Proof.Machine

/-- The two halves of a pair do not overlap (44_unpack_scale R161). -/
theorem raw14_toNat (msb lsb : Byte) : (raw14 msb lsb).toNat = 64 * msb.toNat + lsb.toNat / 4 := by
  have high := msb.isLt
  have low := lsb.isLt
  simp only [raw14, BitVec.toNat_or, BitVec.toNat_shiftLeft, BitVec.toNat_ushiftRight, BitVec.toNat_setWidth,
    Nat.shiftRight_eq_div_pow]
  rw [Nat.mod_eq_of_lt (a := msb.toNat) (by omega), Nat.mod_eq_of_lt (a := lsb.toNat) (by omega),
    Nat.mod_eq_of_lt (by rw [Nat.shiftLeft_eq]; omega), ← Nat.shiftLeft_add_eq_or_of_lt (by omega), Nat.shiftLeft_eq]
  omega

/-- The factor of the scaler by unit (44_unpack_scale R168). -/
theorem scale_eq (s : Int) (u : Bool) : scale s u = s * (if u then 1 else 980655) := by
  cases u <;> rfl

/-- The register holds a product of a 14-bit count exactly (44_unpack_scale R169). -/
theorem numeratorOf_scale (s : Int) (u : Bool) (low : -8192 ≤ s) (high : s ≤ 8191) :
    (numeratorOf (scale s u)).toInt = scale s u := by
  rw [scale_eq, numeratorOf, BitVec.toInt_ofInt, Int.bmod_def]
  split <;> split <;> omega

end Sys2Proof.Machine
end

