-- ==== Sys2Proof/Laws/PerInstr.lean ====
section
/-!
SUPPORT. For every instruction: its word meets the mask and match of its row of spec/opcode_table.json.
-/

namespace Sys2Proof.Laws.TableRow

/-- The fixed bits of a command's row: opcode in bits 1:0. -/
def cmdRow (op : CmdWord) : PortWord → Prop
  | .cmd w => w &&& 0x3 = op
  | .txn _ => False

/-- The fixed bits of a transaction's row under its mask. -/
def txnRow (mask fixed : ReqWord) : PortWord → Prop
  | .cmd _ => False
  | .txn q => q &&& mask = fixed

/-- The word of an instruction has the fixed bits of its row. -/
def Statement : Instr → Prop
  | .init g => cmdRow 0x0 (encode (.init g))
  | .rdtsrc g => cmdRow 0x1 (encode (.rdtsrc g))
  | .getacc g => cmdRow 0x2 (encode (.getacc g))
  | .getori g => cmdRow 0x3 (encode (.getori g))
  | .rd dev reg => txnRow 0x18000FF 0x0000000 (encode (.rd dev reg))
  | .wr dev reg wdata => txnRow 0x1800000 0x0800000 (encode (.wr dev reg wdata))
  | .rdblk dev reg => txnRow 0x18000FF 0x1000000 (encode (.rdblk dev reg))

theorem init (g : Bool) : Statement (.init g) := by cases g <;> rfl

theorem rdtsrc (g : Bool) : Statement (.rdtsrc g) := by cases g <;> rfl

theorem getacc (g : Bool) : Statement (.getacc g) := by cases g <;> rfl

theorem getori (g : Bool) : Statement (.getori g) := by cases g <;> rfl

/-- The mask of the two read rows, field by field. -/
theorem readMask : (0x18000FF : ReqWord) = (3 : BitVec 2) ++ (0 : BitVec 7) ++ (0 : BitVec 8) ++ (0xFF : BitVec 8) := by
  decide

/-- The mask of the write row, field by field. -/
theorem writeMask : (0x1800000 : ReqWord) = (3 : BitVec 2) ++ (0 : BitVec 7) ++ (0 : BitVec 8) ++ (0 : BitVec 8) := by
  decide

/-- Masking works field by field. -/
theorem masked (q : Request) (k : BitVec 2) (w : Byte) :
    q.word &&& (k ++ (0 : BitVec 7) ++ (0 : BitVec 8) ++ w)
      = (q.kind.code &&& k) ++ (0 : BitVec 7) ++ (0 : BitVec 8) ++ (q.wdata &&& w) := by
  rw [Request.word, BitVec.and_append, BitVec.and_append, BitVec.and_append]
  simp

theorem rd (dev : DevAddr) (reg : RegAddr) : Statement (.rd dev reg) := by
  show Request.word ⟨.rd, dev, reg, 0⟩ &&& 0x18000FF = 0
  rw [readMask, masked]
  simp [Kind.code]

theorem wr (dev : DevAddr) (reg : RegAddr) (wdata : Byte) : Statement (.wr dev reg wdata) := by
  show Request.word ⟨.wr, dev, reg, wdata⟩ &&& 0x1800000 = 0x0800000
  rw [writeMask, masked]
  simp [Kind.code]

theorem rdblk (dev : DevAddr) (reg : RegAddr) : Statement (.rdblk dev reg) := by
  show Request.word ⟨.rdblk, dev, reg, 0⟩ &&& 0x18000FF = 0x1000000
  rw [readMask, masked]
  simp [Kind.code]

end Sys2Proof.Laws.TableRow
end

