-- ==== Sys2Proof/Laws/State.lean ====
section
/-!
SUPPORT. The fields of a state after each named update of Machine/Ops.lean: one lemma per field per update.
-/

namespace Sys2Proof.Machine.State

variable (s : State)


/-! ### goto -/

@[simp] theorem goto_busy (p : BitVec 5) : (s.goto p).busy = s.busy := rfl
@[simp] theorem goto_done (p : BitVec 5) : (s.goto p).done = s.done := rfl
@[simp] theorem goto_inflight (p : BitVec 5) : (s.goto p).inflight = s.inflight := rfl
@[simp] theorem goto_cmd (p : BitVec 5) : (s.goto p).cmd = s.cmd := rfl
@[simp] theorem goto_useG (p : BitVec 5) : (s.goto p).useG = s.useG := rfl
@[simp] theorem goto_pc (p : BitVec 5) : (s.goto p).pc = p := rfl
@[simp] theorem goto_pollCount (p : BitVec 5) : (s.goto p).pollCount = s.pollCount := rfl
@[simp] theorem goto_dstate (p : BitVec 5) : (s.goto p).dstate = s.dstate := rfl
@[simp] theorem goto_status (p : BitVec 5) : (s.goto p).status = s.status := rfl
@[simp] theorem goto_sample (p : BitVec 5) : (s.goto p).sample = s.sample := rfl
@[simp] theorem goto_diag (p : BitVec 5) : (s.goto p).diag = s.diag := rfl
@[simp] theorem goto_resByte (p : BitVec 5) : (s.goto p).resByte = s.resByte := rfl
@[simp] theorem goto_resX (p : BitVec 5) : (s.goto p).resX = s.resX := rfl
@[simp] theorem goto_resY (p : BitVec 5) : (s.goto p).resY = s.resY := rfl
@[simp] theorem goto_resZ (p : BitVec 5) : (s.goto p).resZ = s.resZ := rfl
@[simp] theorem goto_unit (p : BitVec 5) : (s.goto p).unit = s.unit := rfl
@[simp] theorem goto_trace (p : BitVec 5) : (s.goto p).trace = s.trace := rfl
@[simp] theorem goto_cfg (p : BitVec 5) : (s.goto p).cfg = s.cfg := rfl
@[simp] theorem goto_schedule (p : BitVec 5) : (s.goto p).schedule = s.schedule := rfl
@[simp] theorem goto_thereafter (p : BitVec 5) : (s.goto p).thereafter = s.thereafter := rfl
@[simp] theorem goto_freeCount (p : BitVec 5) : (s.goto p).freeCount = s.freeCount := rfl

/-! ### finish -/

@[simp] theorem finish_busy : (s.finish).busy = false := rfl
@[simp] theorem finish_done : (s.finish).done = true := rfl
@[simp] theorem finish_inflight : (s.finish).inflight = s.inflight := rfl
@[simp] theorem finish_cmd : (s.finish).cmd = s.cmd := rfl
@[simp] theorem finish_useG : (s.finish).useG = s.useG := rfl
@[simp] theorem finish_pc : (s.finish).pc = s.pc := rfl
@[simp] theorem finish_pollCount : (s.finish).pollCount = s.pollCount := rfl
@[simp] theorem finish_dstate : (s.finish).dstate = s.dstate := rfl
@[simp] theorem finish_status : (s.finish).status = .ok := rfl
@[simp] theorem finish_sample : (s.finish).sample = s.sample := rfl
@[simp] theorem finish_diag : (s.finish).diag = s.diag := rfl
@[simp] theorem finish_resByte : (s.finish).resByte = s.resByte := rfl
@[simp] theorem finish_resX : (s.finish).resX = s.resX := rfl
@[simp] theorem finish_resY : (s.finish).resY = s.resY := rfl
@[simp] theorem finish_resZ : (s.finish).resZ = s.resZ := rfl
@[simp] theorem finish_unit : (s.finish).unit = s.unit := rfl
@[simp] theorem finish_trace : (s.finish).trace = s.trace := rfl
@[simp] theorem finish_cfg : (s.finish).cfg = s.cfg := rfl
@[simp] theorem finish_schedule : (s.finish).schedule = s.schedule := rfl
@[simp] theorem finish_thereafter : (s.finish).thereafter = s.thereafter := rfl
@[simp] theorem finish_freeCount : (s.finish).freeCount = s.freeCount := rfl

/-! ### fail -/

@[simp] theorem fail_busy (c : Status) : (s.fail c).busy = false := rfl
@[simp] theorem fail_done (c : Status) : (s.fail c).done = true := rfl
@[simp] theorem fail_inflight (c : Status) : (s.fail c).inflight = s.inflight := rfl
@[simp] theorem fail_cmd (c : Status) : (s.fail c).cmd = s.cmd := rfl
@[simp] theorem fail_useG (c : Status) : (s.fail c).useG = s.useG := rfl
@[simp] theorem fail_pc (c : Status) : (s.fail c).pc = s.pc := rfl
@[simp] theorem fail_pollCount (c : Status) : (s.fail c).pollCount = s.pollCount := rfl
@[simp] theorem fail_dstate (c : Status) : (s.fail c).dstate = .uninitialized := rfl
@[simp] theorem fail_status (c : Status) : (s.fail c).status = c := rfl
@[simp] theorem fail_sample (c : Status) : (s.fail c).sample = s.sample := rfl
@[simp] theorem fail_diag (c : Status) : (s.fail c).diag = s.diag := rfl
@[simp] theorem fail_resByte (c : Status) : (s.fail c).resByte = s.resByte := rfl
@[simp] theorem fail_resX (c : Status) : (s.fail c).resX = s.resX := rfl
@[simp] theorem fail_resY (c : Status) : (s.fail c).resY = s.resY := rfl
@[simp] theorem fail_resZ (c : Status) : (s.fail c).resZ = s.resZ := rfl
@[simp] theorem fail_unit (c : Status) : (s.fail c).unit = s.unit := rfl
@[simp] theorem fail_trace (c : Status) : (s.fail c).trace = s.trace := rfl
@[simp] theorem fail_cfg (c : Status) : (s.fail c).cfg = s.cfg := rfl
@[simp] theorem fail_schedule (c : Status) : (s.fail c).schedule = s.schedule := rfl
@[simp] theorem fail_thereafter (c : Status) : (s.fail c).thereafter = s.thereafter := rfl
@[simp] theorem fail_freeCount (c : Status) : (s.fail c).freeCount = s.freeCount := rfl

/-! ### accept -/

@[simp] theorem accept_busy (c : Cmd) (g : Bool) : (s.accept c g).busy = true := rfl
@[simp] theorem accept_done (c : Cmd) (g : Bool) : (s.accept c g).done = false := rfl
@[simp] theorem accept_inflight (c : Cmd) (g : Bool) : (s.accept c g).inflight = s.inflight := rfl
@[simp] theorem accept_cmd (c : Cmd) (g : Bool) : (s.accept c g).cmd = c := rfl
@[simp] theorem accept_useG (c : Cmd) (g : Bool) : (s.accept c g).useG = g := rfl
@[simp] theorem accept_pc (c : Cmd) (g : Bool) : (s.accept c g).pc = entry c := rfl
@[simp] theorem accept_pollCount (c : Cmd) (g : Bool) : (s.accept c g).pollCount = 0 := rfl
@[simp] theorem accept_dstate (c : Cmd) (g : Bool) : (s.accept c g).dstate = s.dstate := rfl
@[simp] theorem accept_status (c : Cmd) (g : Bool) : (s.accept c g).status = s.status := rfl
@[simp] theorem accept_sample (c : Cmd) (g : Bool) : (s.accept c g).sample = s.sample := rfl
@[simp] theorem accept_diag (c : Cmd) (g : Bool) : (s.accept c g).diag = s.diag := rfl
@[simp] theorem accept_resByte (c : Cmd) (g : Bool) : (s.accept c g).resByte = s.resByte := rfl
@[simp] theorem accept_resX (c : Cmd) (g : Bool) : (s.accept c g).resX = s.resX := rfl
@[simp] theorem accept_resY (c : Cmd) (g : Bool) : (s.accept c g).resY = s.resY := rfl
@[simp] theorem accept_resZ (c : Cmd) (g : Bool) : (s.accept c g).resZ = s.resZ := rfl
@[simp] theorem accept_unit (c : Cmd) (g : Bool) : (s.accept c g).unit = s.unit := rfl
@[simp] theorem accept_trace (c : Cmd) (g : Bool) : (s.accept c g).trace = s.trace := rfl
@[simp] theorem accept_cfg (c : Cmd) (g : Bool) : (s.accept c g).cfg = s.cfg := rfl
@[simp] theorem accept_schedule (c : Cmd) (g : Bool) : (s.accept c g).schedule = s.schedule := rfl
@[simp] theorem accept_thereafter (c : Cmd) (g : Bool) : (s.accept c g).thereafter = s.thereafter := rfl
@[simp] theorem accept_freeCount (c : Cmd) (g : Bool) : (s.accept c g).freeCount = s.freeCount := rfl

/-! ### send -/

@[simp] theorem send_busy (q : Request) : (s.send q).busy = s.busy := rfl
@[simp] theorem send_done (q : Request) : (s.send q).done = s.done := rfl
@[simp] theorem send_inflight (q : Request) : (s.send q).inflight = true := rfl
@[simp] theorem send_cmd (q : Request) : (s.send q).cmd = s.cmd := rfl
@[simp] theorem send_useG (q : Request) : (s.send q).useG = s.useG := rfl
@[simp] theorem send_pc (q : Request) : (s.send q).pc = s.pc := rfl
@[simp] theorem send_pollCount (q : Request) : (s.send q).pollCount = s.pollCount := rfl
@[simp] theorem send_dstate (q : Request) : (s.send q).dstate = s.dstate := rfl
@[simp] theorem send_status (q : Request) : (s.send q).status = s.status := rfl
@[simp] theorem send_sample (q : Request) : (s.send q).sample = s.sample := rfl
@[simp] theorem send_diag (q : Request) : (s.send q).diag = s.diag := rfl
@[simp] theorem send_resByte (q : Request) : (s.send q).resByte = s.resByte := rfl
@[simp] theorem send_resX (q : Request) : (s.send q).resX = s.resX := rfl
@[simp] theorem send_resY (q : Request) : (s.send q).resY = s.resY := rfl
@[simp] theorem send_resZ (q : Request) : (s.send q).resZ = s.resZ := rfl
@[simp] theorem send_unit (q : Request) : (s.send q).unit = s.unit := rfl
@[simp] theorem send_trace (q : Request) : (s.send q).trace = s.trace ++ [⟨q, none⟩] := rfl
@[simp] theorem send_cfg (q : Request) : (s.send q).cfg = s.cfg := rfl
@[simp] theorem send_schedule (q : Request) : (s.send q).schedule = s.schedule := rfl
@[simp] theorem send_thereafter (q : Request) : (s.send q).thereafter = s.thereafter := rfl
@[simp] theorem send_freeCount (q : Request) : (s.send q).freeCount = s.freeCount := rfl

/-! ### answered -/

@[simp] theorem answered_busy (rsp : Response) : (s.answered rsp).busy = s.busy := rfl
@[simp] theorem answered_done (rsp : Response) : (s.answered rsp).done = s.done := rfl
@[simp] theorem answered_inflight (rsp : Response) : (s.answered rsp).inflight = false := rfl
@[simp] theorem answered_cmd (rsp : Response) : (s.answered rsp).cmd = s.cmd := rfl
@[simp] theorem answered_useG (rsp : Response) : (s.answered rsp).useG = s.useG := rfl
@[simp] theorem answered_pc (rsp : Response) : (s.answered rsp).pc = s.pc := rfl
@[simp] theorem answered_pollCount (rsp : Response) : (s.answered rsp).pollCount = s.pollCount := rfl
@[simp] theorem answered_dstate (rsp : Response) : (s.answered rsp).dstate = s.dstate := rfl
@[simp] theorem answered_status (rsp : Response) : (s.answered rsp).status = s.status := rfl
@[simp] theorem answered_sample (rsp : Response) : (s.answered rsp).sample = s.sample := rfl
@[simp] theorem answered_diag (rsp : Response) : (s.answered rsp).diag = s.diag := rfl
@[simp] theorem answered_resByte (rsp : Response) : (s.answered rsp).resByte = s.resByte := rfl
@[simp] theorem answered_resX (rsp : Response) : (s.answered rsp).resX = s.resX := rfl
@[simp] theorem answered_resY (rsp : Response) : (s.answered rsp).resY = s.resY := rfl
@[simp] theorem answered_resZ (rsp : Response) : (s.answered rsp).resZ = s.resZ := rfl
@[simp] theorem answered_unit (rsp : Response) : (s.answered rsp).unit = s.unit := rfl
@[simp] theorem answered_trace (rsp : Response) : (s.answered rsp).trace = recordResponse rsp s.trace := rfl
@[simp] theorem answered_cfg (rsp : Response) : (s.answered rsp).cfg = s.cfg := rfl
@[simp] theorem answered_schedule (rsp : Response) : (s.answered rsp).schedule = s.schedule := rfl
@[simp] theorem answered_thereafter (rsp : Response) : (s.answered rsp).thereafter = s.thereafter := rfl
@[simp] theorem answered_freeCount (rsp : Response) : (s.answered rsp).freeCount = s.freeCount := rfl

/-! ### withSchedule -/

@[simp] theorem withSchedule_busy (es : List Event) : (s.withSchedule es).busy = s.busy := rfl
@[simp] theorem withSchedule_done (es : List Event) : (s.withSchedule es).done = s.done := rfl
@[simp] theorem withSchedule_inflight (es : List Event) : (s.withSchedule es).inflight = s.inflight := rfl
@[simp] theorem withSchedule_cmd (es : List Event) : (s.withSchedule es).cmd = s.cmd := rfl
@[simp] theorem withSchedule_useG (es : List Event) : (s.withSchedule es).useG = s.useG := rfl
@[simp] theorem withSchedule_pc (es : List Event) : (s.withSchedule es).pc = s.pc := rfl
@[simp] theorem withSchedule_pollCount (es : List Event) : (s.withSchedule es).pollCount = s.pollCount := rfl
@[simp] theorem withSchedule_dstate (es : List Event) : (s.withSchedule es).dstate = s.dstate := rfl
@[simp] theorem withSchedule_status (es : List Event) : (s.withSchedule es).status = s.status := rfl
@[simp] theorem withSchedule_sample (es : List Event) : (s.withSchedule es).sample = s.sample := rfl
@[simp] theorem withSchedule_diag (es : List Event) : (s.withSchedule es).diag = s.diag := rfl
@[simp] theorem withSchedule_resByte (es : List Event) : (s.withSchedule es).resByte = s.resByte := rfl
@[simp] theorem withSchedule_resX (es : List Event) : (s.withSchedule es).resX = s.resX := rfl
@[simp] theorem withSchedule_resY (es : List Event) : (s.withSchedule es).resY = s.resY := rfl
@[simp] theorem withSchedule_resZ (es : List Event) : (s.withSchedule es).resZ = s.resZ := rfl
@[simp] theorem withSchedule_unit (es : List Event) : (s.withSchedule es).unit = s.unit := rfl
@[simp] theorem withSchedule_trace (es : List Event) : (s.withSchedule es).trace = s.trace := rfl
@[simp] theorem withSchedule_cfg (es : List Event) : (s.withSchedule es).cfg = s.cfg := rfl
@[simp] theorem withSchedule_schedule (es : List Event) : (s.withSchedule es).schedule = es := rfl
@[simp] theorem withSchedule_thereafter (es : List Event) : (s.withSchedule es).thereafter = s.thereafter := rfl
@[simp] theorem withSchedule_freeCount (es : List Event) : (s.withSchedule es).freeCount = s.freeCount := rfl

/-! ### withArbitrary -/

@[simp] theorem withArbitrary_busy (n : Nat) : (s.withArbitrary n).busy = s.busy := rfl
@[simp] theorem withArbitrary_done (n : Nat) : (s.withArbitrary n).done = s.done := rfl
@[simp] theorem withArbitrary_inflight (n : Nat) : (s.withArbitrary n).inflight = s.inflight := rfl
@[simp] theorem withArbitrary_cmd (n : Nat) : (s.withArbitrary n).cmd = s.cmd := rfl
@[simp] theorem withArbitrary_useG (n : Nat) : (s.withArbitrary n).useG = s.useG := rfl
@[simp] theorem withArbitrary_pc (n : Nat) : (s.withArbitrary n).pc = s.pc := rfl
@[simp] theorem withArbitrary_pollCount (n : Nat) : (s.withArbitrary n).pollCount = s.pollCount := rfl
@[simp] theorem withArbitrary_dstate (n : Nat) : (s.withArbitrary n).dstate = s.dstate := rfl
@[simp] theorem withArbitrary_status (n : Nat) : (s.withArbitrary n).status = s.status := rfl
@[simp] theorem withArbitrary_sample (n : Nat) : (s.withArbitrary n).sample = s.sample := rfl
@[simp] theorem withArbitrary_diag (n : Nat) : (s.withArbitrary n).diag = s.diag := rfl
@[simp] theorem withArbitrary_resByte (n : Nat) : (s.withArbitrary n).resByte = s.resByte := rfl
@[simp] theorem withArbitrary_resX (n : Nat) : (s.withArbitrary n).resX = s.resX := rfl
@[simp] theorem withArbitrary_resY (n : Nat) : (s.withArbitrary n).resY = s.resY := rfl
@[simp] theorem withArbitrary_resZ (n : Nat) : (s.withArbitrary n).resZ = s.resZ := rfl
@[simp] theorem withArbitrary_unit (n : Nat) : (s.withArbitrary n).unit = s.unit := rfl
@[simp] theorem withArbitrary_trace (n : Nat) : (s.withArbitrary n).trace = s.trace := rfl
@[simp] theorem withArbitrary_cfg (n : Nat) : (s.withArbitrary n).cfg = s.cfg := rfl
@[simp] theorem withArbitrary_schedule (n : Nat) : (s.withArbitrary n).schedule = s.schedule := rfl
@[simp] theorem withArbitrary_thereafter (n : Nat) : (s.withArbitrary n).thereafter = .arbitrary n := rfl
@[simp] theorem withArbitrary_freeCount (n : Nat) : (s.withArbitrary n).freeCount = s.freeCount := rfl

/-! ### blockReset -/

@[simp] theorem blockReset_busy : (s.blockReset).busy = false := rfl
@[simp] theorem blockReset_done : (s.blockReset).done = false := rfl
@[simp] theorem blockReset_inflight : (s.blockReset).inflight = false := rfl
@[simp] theorem blockReset_cmd : (s.blockReset).cmd = .init := rfl
@[simp] theorem blockReset_useG : (s.blockReset).useG = false := rfl
@[simp] theorem blockReset_pc : (s.blockReset).pc = 0 := rfl
@[simp] theorem blockReset_pollCount : (s.blockReset).pollCount = 0 := rfl
@[simp] theorem blockReset_dstate : (s.blockReset).dstate = .uninitialized := rfl
@[simp] theorem blockReset_status : (s.blockReset).status = .ok := rfl
@[simp] theorem blockReset_sample : (s.blockReset).sample = Config.freeSample s.freeCount := rfl
@[simp] theorem blockReset_diag : (s.blockReset).diag = Config.freeByte s.freeCount := rfl
@[simp] theorem blockReset_resByte : (s.blockReset).resByte = Config.freeByte (s.freeCount + 1) := rfl
@[simp] theorem blockReset_resX : (s.blockReset).resX = Config.freeNumerator s.freeCount := rfl
@[simp] theorem blockReset_resY : (s.blockReset).resY = Config.freeNumerator (s.freeCount + 1) := rfl
@[simp] theorem blockReset_resZ : (s.blockReset).resZ = Config.freeNumerator (s.freeCount + 2) := rfl
@[simp] theorem blockReset_unit : (s.blockReset).unit = Config.freeFlag s.freeCount := rfl
@[simp] theorem blockReset_trace : (s.blockReset).trace = [] := rfl
@[simp] theorem blockReset_cfg : (s.blockReset).cfg = s.cfg := rfl
@[simp] theorem blockReset_schedule : (s.blockReset).schedule = s.schedule := rfl
@[simp] theorem blockReset_thereafter : (s.blockReset).thereafter = s.thereafter := rfl
@[simp] theorem blockReset_freeCount : (s.blockReset).freeCount = s.freeCount + 3 := rfl

end Sys2Proof.Machine.State
end

