-- ==== Sys2Proof/Laws/Step.lean ====
section
/-!
SUPPORT. What the shared operations and a step can do, said once: the micro-op at a place, the block's turn, the
common part of a completion, and the cases of `step`.
-/

namespace Sys2Proof.Machine

/-! ## The sequence ROM -/

@[simp] theorem microOpAt_addr (m : MicroOp) : microOpAt m.addr = some m := by
  cases m <;> rfl

theorem microOpAt_eq_some {pc : BitVec 5} {m : MicroOp} : microOpAt pc = some m ↔ pc = m.addr := by
  constructor
  · revert pc m
    decide +revert
  · rintro rfl
    exact microOpAt_addr m

theorem microOpAt_eq_none {pc : BitVec 5} : microOpAt pc = none ↔ 18 < pc.toNat := by
  decide +revert

/-- A micro-op that reads carries no data (30_encoding R86). -/
theorem MicroOp.wdata_of_read (c : Config) (m : MicroOp) : m.kind = .wr ∨ m.wdata c = 0 := by
  cases m <;> simp [MicroOp.kind, MicroOp.wdata]

theorem decodeRequest_microOp (c : Config) (m : MicroOp) :
    decodeRequest (m.request c).word = .ok (m.request c).instr :=
  decodeRequest_word _ (m.wdata_of_read c)

/-! ## Commands and requests -/

theorem presentCommand_eq (c : Cmd) (g : Bool) (s : State) :
    presentCommand c g s = .next (if s.busy then s else s.accept c g) := by
  unfold presentCommand
  split <;> rfl

theorem exec_instr (c : Cmd) (g : Bool) (s : State) : exec (c.instr g) s = presentCommand c g s := by
  cases c <;> rfl

theorem issueRequest_eq (q : Request) (s : State) :
    issueRequest q s = .next (if s.canIssueTxn then s.send q else s) := by
  unfold issueRequest
  split <;> rfl

/-- A read's instruction sends the read with no data (30_encoding R84). -/
theorem exec_requestInstr (q : Request) (h : q.kind = .wr ∨ q.wdata = 0) (s : State) :
    exec q.instr s = issueRequest q s := by
  obtain ⟨k, dev, reg, w⟩ := q
  cases k <;> rcases h with h | h <;> simp_all [Request.instr, exec, execRd, execWr, execRdblk]

/-! ## The three agents -/

/-- The block's turn with a micro-op at `pc` sends that micro-op's request (10_state R43). -/
theorem runMicroOp_send {s : State} {m : MicroOp} (h : s.canIssueTxn = true) (hm : microOpAt s.pc = some m) :
    runMicroOp s = .next (s.send (m.request s.cfg)) := by
  simp only [runMicroOp, h, if_true, fetchRequest, hm, Option.map_some, decodeRequest_microOp]
  rw [exec_requestInstr _ (m.wdata_of_read s.cfg), issueRequest_eq, if_pos h]

theorem runMicroOp_pass {s : State} (h : s.canIssueTxn = false) : runMicroOp s = .next s := by
  simp [runMicroOp, h]

theorem runMicroOp_none {s : State} (h : s.canIssueTxn = true) (hm : microOpAt s.pc = none) :
    runMicroOp s = .refused .noMicroOp := by
  simp [runMicroOp, h, fetchRequest, hm]

theorem txnComplete_answer {s : State} {m : MicroOp} (r : RspWord) (h : s.inflight = true)
    (hm : microOpAt s.pc = some m) :
    txnComplete r s = .next (completeMicroOp m r (s.answered (decodeResponse m.kind r))) := by
  simp [txnComplete, h, hm]

theorem txnComplete_drop {s : State} (r : RspWord) (h : s.inflight = false) : txnComplete r s = .next s := by
  simp [txnComplete, h]

theorem recordResponse_append (rsp : Response) (es : List TraceEntry) (e : TraceEntry) :
    recordResponse rsp (es ++ [e]) = es ++ [{ e with resp := some rsp }] := by
  induction es with
  | nil => rfl
  | cons a es ih =>
    cases es with
    | nil => rfl
    | cons b es => simpa [recordResponse] using ih

/-! ## One completion -/

/-- No completion changes the command, its operand, the outstanding flag, the trace, the configuration, the
schedule, what follows it, or the free-value counter. -/
theorem completeMicroOp_keeps (m : MicroOp) (r : RspWord) (s : State) :
    (completeMicroOp m r s).cmd = s.cmd ∧ (completeMicroOp m r s).useG = s.useG ∧
    (completeMicroOp m r s).inflight = s.inflight ∧ (completeMicroOp m r s).trace = s.trace ∧
    (completeMicroOp m r s).cfg = s.cfg ∧ (completeMicroOp m r s).schedule = s.schedule ∧
    (completeMicroOp m r s).thereafter = s.thereafter ∧
    (completeMicroOp m r s).freeCount = s.freeCount := by
  unfold completeMicroOp
  split
  · simp
  · cases m <;>
      simp only [completeOk, completeI1, completeI2W, completeI2P, completeI3, completeI4, completeI5, completeI6,
        completeI7, completeI8, completeI9, completeI10, completeI11, completeI12, completeI13, completeI14, completeT1,
        completeA1, completeA2, completeO1] <;>
      (repeat' split) <;> simp

@[simp] theorem completeMicroOp_cmd (m : MicroOp) (r : RspWord) (s : State) : (completeMicroOp m r s).cmd = s.cmd :=
  (completeMicroOp_keeps m r s).1

@[simp] theorem completeMicroOp_useG (m : MicroOp) (r : RspWord) (s : State) :
    (completeMicroOp m r s).useG = s.useG :=
  (completeMicroOp_keeps m r s).2.1

@[simp] theorem completeMicroOp_inflight (m : MicroOp) (r : RspWord) (s : State) :
    (completeMicroOp m r s).inflight = s.inflight :=
  (completeMicroOp_keeps m r s).2.2.1

@[simp] theorem completeMicroOp_trace (m : MicroOp) (r : RspWord) (s : State) :
    (completeMicroOp m r s).trace = s.trace :=
  (completeMicroOp_keeps m r s).2.2.2.1

@[simp] theorem completeMicroOp_cfg (m : MicroOp) (r : RspWord) (s : State) : (completeMicroOp m r s).cfg = s.cfg :=
  (completeMicroOp_keeps m r s).2.2.2.2.1

@[simp] theorem completeMicroOp_schedule (m : MicroOp) (r : RspWord) (s : State) :
    (completeMicroOp m r s).schedule = s.schedule :=
  (completeMicroOp_keeps m r s).2.2.2.2.2.1

@[simp] theorem completeMicroOp_thereafter (m : MicroOp) (r : RspWord) (s : State) :
    (completeMicroOp m r s).thereafter = s.thereafter :=
  (completeMicroOp_keeps m r s).2.2.2.2.2.2.1

@[simp] theorem completeMicroOp_freeCount (m : MicroOp) (r : RspWord) (s : State) :
    (completeMicroOp m r s).freeCount = s.freeCount :=
  (completeMicroOp_keeps m r s).2.2.2.2.2.2.2

/-! ## The cases of a step -/

/-- What performing an event can do, from the state whose schedule is already the rest (10_state R41 to R44). -/
inductive Performed (s : State) : Event → State → Prop
  | reset : Performed s .reset s.blockReset
  | accepted (w : CmdWord) : s.busy = false →
      Performed s (.issue w) (s.accept (Cmd.ofCode (w.extractLsb' 0 2)) (w.getLsbD 2))
  | turnedAway (w : CmdWord) : s.busy = true → Performed s (.issue w) s
  | sent (m : MicroOp) : s.canIssueTxn = true → microOpAt s.pc = some m →
      Performed s .txnIssue (s.send (m.request s.cfg))
  | passed : s.canIssueTxn = false → Performed s .txnIssue s
  | completed (m : MicroOp) (r : RspWord) : s.inflight = true → microOpAt s.pc = some m →
      Performed s (.txnComplete r) (completeMicroOp m r (s.answered (decodeResponse m.kind r)))
  | unsolicited (r : RspWord) : s.inflight = false → Performed s (.txnComplete r) s

theorem perform_next {s t : State} {e : Event} (h : perform e s = .next t) : Performed s e t := by
  cases e with
  | reset => obtain rfl : s.blockReset = t := by simpa [perform] using h
             exact .reset
  | issue w =>
    rw [perform, decodeCommand, exec_instr, presentCommand_eq] at h
    cases hb : s.busy with
    | true => obtain rfl : s = t := by simpa [hb] using h
              exact .turnedAway w hb
    | false => obtain rfl := by simpa [hb] using h
               exact .accepted w hb
  | txnIssue =>
    cases hc : s.canIssueTxn with
    | false => obtain rfl : s = t := by simpa [perform, runMicroOp_pass hc] using h
               exact .passed hc
    | true =>
      cases hm : microOpAt s.pc with
      | none => simp [perform, runMicroOp_none hc hm] at h
      | some m => obtain rfl : s.send (m.request s.cfg) = t := by simpa [perform, runMicroOp_send hc hm] using h
                  exact .sent m hc hm
  | txnComplete r =>
    cases hi : s.inflight with
    | false => obtain rfl : s = t := by simpa [perform, txnComplete_drop r hi] using h
               exact .unsolicited r hi
    | true =>
      cases hm : microOpAt s.pc with
      | none => simp [perform, txnComplete, hi, hm] at h
      | some m => obtain rfl := by simpa [perform, txnComplete_answer r hi hm] using h
                  exact .completed m r hi hm

/-- Taking the next event changes nothing but what is to come. -/
theorem pick_state {s u : State} {e : Event} (h : s.pick = some (e, u)) :
    u = { s with schedule := u.schedule, thereafter := u.thereafter } := by
  unfold State.pick at h
  repeat' split at h
  all_goals simp only [Option.some.injEq, Prod.mk.injEq, reduceCtorEq] at h
  all_goals obtain ⟨-, rfl⟩ := h; rfl

/-- What a step that answers a next state did: nobody moved, or the event picked was performed, in the state without
it. -/
theorem step_next {s t : State} (h : step s = .next t) :
    (s.pick = none ∧ t = s) ∨ ∃ e u, s.pick = some (e, u) ∧
      u = { s with schedule := u.schedule, thereafter := u.thereafter } ∧ Performed u e t := by
  unfold step at h
  split at h
  next hp => exact .inl ⟨hp, by simpa using h.symm⟩
  next e u hp => exact .inr ⟨e, u, hp, pick_state hp, perform_next h⟩

theorem step_of_pick {s u : State} {e : Event} (h : s.pick = some (e, u)) : step s = perform e u := by
  simp [step, h]

theorem step_of_schedule {s : State} {e : Event} {rest : List Event} (h : s.schedule = e :: rest) :
    step s = perform e (s.withSchedule rest) :=
  step_of_pick (by simp [State.pick, h])

/-- The schedule used up, the next round begins. -/
theorem step_of_repeating {s : State} {e : Event} {rest : List Event} (h : s.schedule = [])
    (hr : s.thereafter = .repeating (e :: rest)) : step s = perform e (s.withSchedule rest) :=
  step_of_pick (by simp [State.pick, h, hr])

end Sys2Proof.Machine
end

