-- ==== Sys2Proof/Laws/Run.lean ====
section
/-!
SUPPORT. What one transaction does: the block's turn and the transport's answer, two steps.
-/

namespace Sys2Proof.Safety

open Sys2Proof Sys2Proof.Machine

/-- A micro-op's turn: its request is issued and answered, and its completion action runs (10_state R43 to R45). -/
theorem run_turn {s : State} {m : MicroOp} {r : RspWord} {rest : List Event} (h : OnTurn s m.addr r rest) :
    run 2 s = .next (completeMicroOp m r { s with
      inflight := false
      trace := s.trace ++ [⟨m.request s.cfg, some (decodeResponse m.kind r)⟩]
      schedule := rest }) := by
  obtain ⟨hb, hi, hp, hs⟩ := h
  have issued : step s = .next ((s.withSchedule (.txnComplete r :: rest)).send (m.request s.cfg)) := by
    rw [step_of_schedule hs]
    exact runMicroOp_send (by simp [State.canIssueTxn, hb, hi]) (by simp [hp])
  have answered : step ((s.withSchedule (.txnComplete r :: rest)).send (m.request s.cfg)) =
      .next (completeMicroOp m r { s with
        inflight := false
        trace := s.trace ++ [⟨m.request s.cfg, some (decodeResponse m.kind r)⟩]
        schedule := rest }) := by
    rw [step_of_schedule (e := .txnComplete r) (rest := rest) (by simp), perform,
      txnComplete_answer (m := m) r (by simp) (by simp [hp])]
    simp [State.answered, State.send, State.withSchedule, recordResponse_append]
  simp [run, issued, answered]

/-- With the schedule used up a run goes on with the next round of the events that repeat. -/
theorem run_round {s : State} {es : List Event} {n : Nat} (h : s.schedule = []) (hr : s.thereafter = .repeating es)
    (hne : es ≠ []) (hn : 0 < n) : run n s = run n (s.withSchedule es) := by
  obtain ⟨e, rest, rfl⟩ := List.exists_cons_of_ne_nil hne
  obtain ⟨n, rfl⟩ := Nat.exists_eq_succ_of_ne_zero hn.ne'
  simp only [run, step_of_repeating h hr, step_of_schedule (s := s.withSchedule (e :: rest)) rfl]
  rfl

/-- Steps add up. -/
theorem run_add (a b : Nat) (s t : State) (h : run a s = .next t) : run (a + b) s = run b t := by
  induction a generalizing s with
  | zero => obtain rfl : s = t := by simpa [run] using h
            simp
  | succ a ih =>
    rw [Nat.add_right_comm]
    cases hs : step s with
    | next u =>
      simp only [run, hs] at h ⊢
      exact ih u h
    | fault f => simp [run, hs] at h
    | refused r => simp [run, hs] at h

end Sys2Proof.Safety
end

