-- ==== Sys2Proof/Tests/Slice0.lean ====
section
/-!
SUPPORT. Tests of one step each, with expected results from spec/95_test_vectors.md (the identifiers S, V, M and P are
its own), and for each obligation with hypotheses a concrete case that meets all of them.
-/

namespace Sys2Proof.Tests

open Sys2Proof Sys2Proof.Machine Sys2Proof.Safety

/-! ## Small states -/

/-- The example configuration EX (95_test_vectors section 3). -/
def ex : Config where
  devAddrPrimary := 0x1D
  devAddrAlt := 0x1C
  regOutXMsb := 0x01
  regFSetup := 0x09
  regWhoAmI := 0x0D
  regXyzDataCfg := 0x0E
  regPlStatus := 0x10
  regPlCfg := 0x11
  regTransientCfg := 0x1D
  regTransientSrc := 0x1E
  regTransientThs := 0x1F
  regTransientCount := 0x20
  regCtrl1 := 0x2A
  regCtrl2 := 0x2B
  regCtrl4 := 0x2D
  regCtrl5 := 0x2E
  bReset := 0x40
  vHires := 0x02
  vStandby := 0x18
  vTransCfg := 0x1E
  vTransThs := 0x08
  vTransCount := 0x05
  vIntEn := 0x20
  vIntMap := 0x20
  vDataCfg := 0x11
  vActive := 0x19
  vPlEn := 0x40

/-- EX with a poll limit. -/
def limited (n : Nat) : Config := { ex with pollLimit := some n }

/-- An idle block right after reset, under EX, with a schedule. -/
def idle (es : List Event) : State := { State.reset with cfg := ex, schedule := es }

/-- The command a micro-op belongs to (30_encoding R87). -/
def cmdOf (m : MicroOp) : Cmd :=
  match m with
  | .t1 => .rdtsrc
  | .a1 => .getacc
  | .a2 => .getacc
  | .o1 => .getori
  | _ => .init

/-- The block with a command in flight at a micro-op, under EX, with a schedule. -/
def running (m : MicroOp) (es : List Event) : State :=
  { State.reset with busy := true, cmd := cmdOf m, pc := m.addr, cfg := ex, schedule := es }

/-- The block at a micro-op whose turn comes next, then a response. -/
def turn (m : MicroOp) (r : RspWord) : State := running m [.txnIssue, .txnComplete r]

/-- The block with the transaction of a micro-op outstanding and a response next. -/
def waiting (m : MicroOp) (r : RspWord) : State :=
  { running m [.txnComplete r] with inflight := true, trace := [⟨m.request ex, none⟩] }

/-- The state after a step, if there is one. -/
def after : Host.Outcome State Fault Refusal → Option State
  | .next t => some t
  | _ => none

/-- The state after one step from a state that has a next one. -/
def next (s : State) : State := (after (step s)).getD s

/-- What a step writes of the control registers. -/
def control (s : State) : Bool × Bool × DState × Status × BitVec 5 × Nat :=
  (s.busy, s.done, s.dstate, s.status, s.pc, s.pollCount)

/-- The response word `Ok(b)` to a single read (30_encoding R85; the words of P1). -/
def okByte (b : Byte) : RspWord := b.setWidth 49 <<< 40

/-- The response word `Ok` to a write (P1). -/
def okWrite : RspWord := 0x0000000000000

/-- The response word `Err` (P4). -/
def errWord : RspWord := 0x1000000000000

/-- The block-read response of M24. -/
def sampleWord : RspWord := 0x020000000E000

/-! ## Well-formedness -/

theorem test_wf_refuses_block_read_past_the_top :
    (Instr.rdblk 0x1D 0xFB).wf = false ∧ (Instr.rdblk 0x1D 0xFA).wf = true := by decide

theorem test_config_refuses_block_start_past_the_top :
    ({ ex with regOutXMsb := 0xFB } : Config).wf = false ∧ ({ ex with regOutXMsb := 0xFA } : Config).wf = true := by
  decide

theorem test_config_refuses_empty_reset_mask :
    ({ ex with bReset := 0x00 } : Config).wf = false ∧ ({ ex with bReset := 0x01 } : Config).wf = true := by decide

theorem test_config_refuses_equal_addresses :
    ({ ex with devAddrAlt := 0x1D } : Config).wf = false ∧ ex.wf = true := by decide

theorem test_config_refuses_poll_limit_zero : (limited 0).wf = false ∧ (limited 1).wf = true := by decide

/-! ## Decoding: words written out from the field tables -/

/-- 95_test_vectors 2.3, all eight command words. -/
theorem test_command_words :
    decodeCommand 0b000 = .init false ∧ decodeCommand 0b100 = .init true ∧ decodeCommand 0b001 = .rdtsrc false ∧
    decodeCommand 0b101 = .rdtsrc true ∧ decodeCommand 0b010 = .getacc false ∧ decodeCommand 0b110 = .getacc true ∧
    decodeCommand 0b011 = .getori false ∧ decodeCommand 0b111 = .getori true := by decide

/-- `kind dev reg wdata`: RD of device 0x1D, register 0x0D. -/
theorem test_decode_rd : decodeRequest 0b00_0011101_00001101_00000000 = .ok (.rd 0x1D 0x0D) := by decide

/-- `kind dev reg wdata`: WR of device 0x1D, register 0x2B, byte 0x40. -/
theorem test_decode_wr : decodeRequest 0b01_0011101_00101011_01000000 = .ok (.wr 0x1D 0x2B 0x40) := by decide

/-- `kind dev reg wdata`: RDBLK of device 0x1D from register 0x01. -/
theorem test_decode_rdblk : decodeRequest 0b10_0011101_00000001_00000000 = .ok (.rdblk 0x1D 0x01) := by decide

theorem test_decode_rejects_reserved_kind :
    decodeRequest 0b11_0011101_00000001_00000000 = .error .reservedKind := by decide

theorem test_decode_rejects_read_with_data :
    decodeRequest 0b00_0011101_00001101_00000001 = .error .readWithData ∧
    decodeRequest 0b10_0011101_00000001_10000000 = .error .readWithData := by decide

theorem test_table_numbers_past_the_word_are_rejected :
    decodeTableWord 8 0b1000 = none ∧ decodeTableWord 32 0x2000000 = none := by decide

/-- 95_test_vectors section 3, the request words of the ROM under EX. -/
theorem test_rom_words :
    (List.range 19).map (fun p => fetchRequest { idle [] with pc := BitVec.ofNat 5 p }) =
      [0x01D0D00, 0x09D2B40, 0x01D2B00, 0x09D0900, 0x09D2B02, 0x09D2A18, 0x09D1D1E, 0x09D1F08, 0x09D2005, 0x09D2D20].map
        some ++
      [0x09D2E20, 0x09D0E11, 0x01D2A00, 0x09D2A19, 0x09D1140, 0x01D1E00, 0x09D0100, 0x11D0100, 0x01D1000].map some := by
  decide

/-- 30_encoding R88. -/
theorem test_rom_holds_nothing_past_its_end :
    ∀ pc : BitVec 5, 18 < pc.toNat → fetchRequest { idle [] with pc := pc } = none := by decide

/-- The response words of P3 and P4. -/
theorem test_response_words :
    decodeResponse .rdblk 0x01234FFFC7FFF = .okBlock ⟨0x12, 0x34, 0xFF, 0xFC, 0x7F, 0xFF⟩ ∧
    decodeResponse .rd 0x0180000000000 = .okByte 0x18 ∧ decodeResponse .wr 0x0FFFFFFFFFFFF = .okWrite ∧
    decodeResponse .rd errWord = .err := by decide

/-! ## The word a step fetches -/

theorem test_step_runs_a_placed_command :
    (after (step (State.reset.withFetchWord 8 0b110))).map (fun t => (t.busy, t.cmd, t.useG, t.pc)) =
      some (true, .getacc, true, 16) := by decide

theorem test_step_runs_a_placed_read :
    (after (step (State.reset.withFetchWord 32 0x01D0D00))).map (fun t => (t.inflight, t.trace)) =
      some (true, [⟨⟨.rd, 0x1D, 0x0D, 0x00⟩, none⟩]) := by decide

theorem test_step_runs_a_placed_write :
    (after (step (State.reset.withFetchWord 32 0x09D2B40))).map (fun t => (t.inflight, t.trace)) =
      some (true, [⟨⟨.wr, 0x1D, 0x2B, 0x40⟩, none⟩]) := by decide

theorem test_step_runs_a_placed_block_read :
    (after (step (State.reset.withFetchWord 32 0x11D0100))).map (fun t => (t.inflight, t.trace)) =
      some (true, [⟨⟨.rdblk, 0x1D, 0x01, 0x00⟩, none⟩]) := by decide

/-! ## Commands -/

/-- P3: `Issue(0b110)`; `status`, `dstate` and the payload stay. -/
theorem test_issue_getacc_g :
    after (step { idle [.issue 0b110] with dstate := .active, done := true, pc := 14 }) =
      some { idle [] with dstate := .active, busy := true, cmd := .getacc, useG := true, pc := 16 } := by decide

/-- 95_test_vectors 2.3: the unused operand of `GETORI` is latched. -/
theorem test_issue_latches_the_unused_operand :
    (after (exec (.getori true) (idle []))).map (fun t => (t.cmd.code, t.useG, t.pc)) = some (3, true, 18) := by decide

/-- 95_test_vectors 2.5: a command presented to a busy block is not accepted and not queued. -/
theorem test_busy_block_accepts_nothing : after (step (running .i3 [.issue 0b010])) = some (running .i3 []) := by decide

/-- 95_test_vectors 2.5: a response nothing asked for is not taken. -/
theorem test_unsolicited_response_is_not_taken :
    after (step (running .i3 [.txnComplete okWrite])) = some (running .i3 []) := by decide

/-! ## Micro-op completions -/

theorem test_M1_identity : control (next (waiting .i1 (okByte 0x1A))) = (true, false, .uninitialized, .ok, 1, 0) := by
  decide

theorem test_M2_wrong_identity :
    control (next { waiting .i1 (okByte 0x1B) with dstate := .active }) =
      (false, true, .uninitialized, .deviceNotFound, 0, 0) := by decide

theorem test_M5_reset_write :
    control (next { waiting .i2w okWrite with pollCount := 7 }) = (true, false, .resetting, .ok, 2, 0) := by decide

theorem test_M7_poll_ignores_other_bits : (next (waiting .i2p (okByte 0xBF))).pc = 3 := by decide

theorem test_M8_poll_again :
    control (next { waiting .i2p (okByte 0xFF) with cfg := limited 3 }) =
      (true, false, .uninitialized, .ok, 2, 1) := by decide

theorem test_M9_poll_times_out :
    control (next { waiting .i2p (okByte 0x40) with cfg := limited 3, pollCount := 2, dstate := .resetting }) =
      (false, true, .uninitialized, .protocolTimeout, 2, 2) := by decide

theorem test_M10_clear_test_comes_first :
    (next { waiting .i2p (okByte 0x00) with cfg := limited 3, pollCount := 2 }).pc = 3 := by decide

theorem test_M11_one_read_allowed :
    (next { waiting .i2p (okByte 0x40) with cfg := limited 1 }).status = .protocolTimeout := by decide

/-- 41_init R122 to R129: each of the eight writes goes on at the next place and changes nothing else shown. -/
theorem test_configuration_writes_fall_through :
    ([.i3, .i4, .i5, .i6, .i7, .i8, .i9, .i10].map fun m => control (next (waiting m okWrite))) =
      [4, 5, 6, 7, 8, 9, 10, 11].map fun p => (true, false, DState.uninitialized, Status.ok, p, 0) := by decide

theorem test_M12_configured :
    control (next { waiting .i11 okWrite with dstate := .resetting }) = (true, false, .configured, .ok, 12, 0) := by
  decide

theorem test_M13_read_back :
    let t := next (waiting .i12 (okByte 0x5C))
    t.diag = 0x5C ∧ t.pc = 13 := by decide

theorem test_M14_active :
    control (next { waiting .i13 okWrite with dstate := .configured }) = (true, false, .active, .ok, 14, 0) := by
  decide

theorem test_M15_init_ends :
    control (next { waiting .i14 okWrite with dstate := .active }) = (false, true, .active, .ok, 14, 0) := by decide

theorem test_M16_init_fails_at_its_end :
    control (next { waiting .i14 errWord with dstate := .active }) =
      (false, true, .uninitialized, .transportError, 14, 0) := by decide

theorem test_M17_transient_source :
    let t := next (waiting .t1 (okByte 0x44))
    t.resByte = 0x44 ∧ control t = (false, true, .uninitialized, .ok, 15, 0) := by decide

theorem test_M18_failed_transient_read_keeps_the_byte :
    let t := next { waiting .t1 errWord with resByte := 0x44, dstate := .active }
    t.resByte = 0x44 ∧ control t = (false, true, .uninitialized, .transportError, 15, 0) := by decide

theorem test_M19_M21_orientation :
    (next (waiting .o1 (okByte 0x86))).resByte = 0x06 ∧ (next (waiting .o1 (okByte 0xF8))).resByte = 0x00 := by decide

theorem test_M22_latch_write : control (next (waiting .a1 okWrite)) = (true, false, .uninitialized, .ok, 17, 0) := by
  decide

theorem test_M24_block_read_in_g :
    let t := next { waiting .a2 sampleWord with useG := true }
    t.sample = ⟨0x20, 0x00, 0x00, 0x00, 0xE0, 0x00⟩ ∧ t.resX.toInt = 2048 ∧ t.resY.toInt = 0 ∧
      t.resZ.toInt = -2048 ∧ t.unit = true ∧ t.status = .ok := by decide

theorem test_M25_block_read_in_si :
    let t := next { waiting .a2 sampleWord with unit := true }
    t.resX.toInt = 2008381440 ∧ t.resY.toInt = 0 ∧ t.resZ.toInt = -2008381440 ∧ t.unit = false := by decide

/-! ## The unpacker and the scaler -/

/-- V1 to V6, V9 to V12, V14, V17, V19, V20. -/
theorem test_V_unpacker :
    [unpack14 0x00 0x00, unpack14 0x00 0x03, unpack14 0x00 0x04, unpack14 0x00 0xFF, unpack14 0x01 0x00,
      unpack14 0x10 0x00, unpack14 0x7F 0xFC, unpack14 0x7F 0xFF, unpack14 0x80 0x00, unpack14 0x80 0x03,
      unpack14 0xDF 0xFC, unpack14 0xFE 0xA8, unpack14 0xFF 0xFF, unpack14 0x12 0x34] =
    [0, 0, 1, 63, 64, 1024, 8191, 8191, -8192, -8192, -2049, -86, -1, 1165] := by decide

/-- 95_test_vectors 2.2, the 34-bit patterns. -/
theorem test_scaler_patterns :
    [1, -1, 63, 1165, 2048, -2049, 8191, -8192, -86].map (fun s => numeratorOf (scale s false)) =
      [0x0000EF6AF, 0x3FFF10951, 0x003AEB511, 0x044189A63, 0x077B57800, 0x3883B9151, 0x1DEC6E951, 0x2212A2000,
        0x3FAF92136] := by decide

/-- The round trips of 95_test_vectors 2.1. -/
theorem test_encode14 :
    encode14 (-2048) = (0xE0, 0x00) ∧ encode14 8191 = (0x7F, 0xFC) ∧ encode14 (-8192) = (0x80, 0x00) ∧
    encode14 1165 = (0x12, 0x34) ∧ encode14 (unpack14 0x7F 0xFF) = (0x7F, 0xFC) := by decide

/-! ## Spellings (30_encoding R94) -/

theorem test_bare_getacc_is_si :
    assembleCommand "GETACC".toList = assembleCommand "GETACC si".toList ∧
    assembleCommand "GETACC g".toList = some 0b110 ∧ assembleCommand "RD 0x0D".toList = none := by decide

theorem test_asm_transactions :
    asm (.wr 0x1D 0x09 0x00) = "WR 0x09, 0x00".toList ∧ asm (.rd 0x1D 0x0D) = "RD 0x0D".toList ∧
    Response.asm (.okByte 0x1A) = "0x1A".toList ∧ unitTag false = "m/s²".toList := by decide

/-! ## Witnesses: for each obligation with hypotheses, a case that meets them all -/

theorem witness_EncodeOfDecodeIsTheWord :
    decode (.cmd 0b111) = .ok (.getori true) ∧ decode (.txn 0x11D0100) = .ok (.rdblk 0x1D 0x01) := by decide

theorem witness_CommandWordsDecodeByOpcode :
    (0b100 : CmdWord).extractLsb' 0 2 = 0 ∧ (0b101 : CmdWord).extractLsb' 0 2 = 1 ∧
    (0b010 : CmdWord).extractLsb' 0 2 = 2 ∧ (0b011 : CmdWord).extractLsb' 0 2 = 3 := by decide

theorem witness_ResponseWordsDecodeTyped :
    Response.fits .rd (.okByte 0xFF) = true ∧ Response.fits .wr .okWrite = true ∧
    Response.fits .rdblk (.okBlock ⟨0, 3, 0, 2, 0, 1⟩) = true ∧ Response.fits .rdblk .err = true := by decide

theorem witness_IgnoredResponseBitsHaveNoEffect :
    microOpAt (waiting .t1 errWord).pc = some .t1 ∧ MicroOp.t1.kind = .rd ∧
    (rspErr errWord = true ∧ rspErr 0x1FFFFFFFFFFFF = true) ∧
    (rspErr 0x0440000000000 = false ∧ rspErr 0x044FFFFFFFFFF = false ∧
      (0x0440000000000 : RspWord).extractLsb' 40 8 = (0x044FFFFFFFFFF : RspWord).extractLsb' 40 8) ∧
    microOpAt (waiting .a1 okWrite).pc = some .a1 ∧ MicroOp.a1.kind = .wr ∧
    rspErr okWrite = false ∧ rspErr 0x0FFFFFFFFFFFF = false := by decide

/-- A block with nothing scheduled and these events repeating for ever. -/
def rounds (s : State) (es : List Event) : State := { s with schedule := [], thereafter := .repeating es }

theorem witness_StepRunsTheDecodedCommand :
    let s := rounds (idle []) [.issue 0b110, .reset]
    let s' := { idle [] with thereafter := .arbitrary 0 }
    (idle [.issue 0b110, .reset]).schedule = .issue 0b110 :: [.reset] ∧
    (s.schedule = [] ∧ s.thereafter = .repeating (.issue 0b110 :: [.reset])) ∧
    s.pick = some (.issue 0b110, { s with schedule := [.reset] }) ∧
    s'.schedule = [] ∧ s'.thereafter = .arbitrary 0 := by decide

theorem witness_StepRunsTheDecodedRequest :
    let s := running .i1 [.txnIssue]
    let s' := running .i1 []
    s.busy = true ∧ s.inflight = false ∧ fetchRequest s = some 0x01D0D00 ∧
    decodeRequest 0x01D0D00 = .ok (.rd 0x1D 0x0D) ∧ s.schedule = .txnIssue :: [] ∧
    s'.busy = true ∧ s'.inflight = false ∧ fetchRequest s' = some 0x01D0D00 ∧ s'.schedule = [] ∧
    s'.thereafter = .repeating [] ∧
    (rounds s' [.txnIssue]).schedule = [] ∧ (rounds s' [.txnIssue]).thereafter = .repeating (.txnIssue :: []) ∧
    fetchRequest (rounds s' [.txnIssue]) = some 0x01D0D00 := by decide

theorem witness_PlacesPastTheRomHoldNoMicroOp :
    let s := { running .i1 [.txnIssue] with pc := 19 }
    let s' := { running .i1 [.txnComplete okWrite] with pc := 31, inflight := true }
    18 < s.pc.toNat ∧ s.busy = true ∧ s.inflight = false ∧ s.schedule = .txnIssue :: [] ∧
    18 < s'.pc.toNat ∧ s'.busy = true ∧ s'.inflight = true ∧ s'.schedule = .txnComplete okWrite :: [] := by decide

theorem witness_IdleBlockAcceptsEveryCommand : State.reset.busy = false := rfl

theorem witness_FreeTransportTakesEveryRequest :
    (running .i1 []).busy = true ∧ (running .i1 []).inflight = false := by decide

theorem witness_CommandsLeaveTheRestUnchanged :
    exec (Cmd.instr .getacc true) (idle []) =
      .next { idle [] with busy := true, cmd := .getacc, useG := true, pc := 16 } := rfl

theorem witness_RequestsLeaveTheRestUnchanged :
    exec (.wr 0x1D 0x2B 0x40) (running .i2w []) =
      .next { running .i2w [] with inflight := true, trace := [⟨⟨.wr, 0x1D, 0x2B, 0x40⟩, none⟩] } := rfl

theorem witness_IssueLatchesTheCommandWord :
    (idle [.issue 0b101]).schedule = .issue 0b101 :: [] ∧ (idle [.issue 0b101]).busy = false ∧
    (running .i3 [.issue 0b101]).schedule = .issue 0b101 :: [] ∧ (running .i3 [.issue 0b101]).busy = true ∧
    after (step (running .i3 [.issue 0b101])) = some (running .i3 []) := by decide

theorem witness_BlockIssuesTheRequestAtPc :
    let s := running .o1 [.txnIssue]
    s.schedule = .txnIssue :: [] ∧ microOpAt s.pc = some .o1 ∧ s.busy = true ∧ s.inflight = false ∧
    (idle [.txnIssue]).schedule = .txnIssue :: [] ∧ microOpAt (idle [.txnIssue]).pc = some .i1 ∧
    (idle [.txnIssue]).busy = false ∧ after (step (idle [.txnIssue])) = some (idle []) := by decide

/-- At each of the nineteen places a state meets `OnTurn`. -/
theorem onTurn_turn (m : MicroOp) (r : RspWord) : OnTurn (turn m r) m.addr r [] := ⟨rfl, rfl, rfl, rfl⟩

theorem witness_IdentityReadAdmitsOnlyTheDeviceId :
    (OnTurn (turn .i1 (okByte 0x1A)) 0 (okByte 0x1A) [] ∧ rspErr (okByte 0x1A) = false ∧
      rspByte (okByte 0x1A) = 0x1A) ∧
    (OnTurn (turn .i1 (okByte 0xFF)) 0 (okByte 0xFF) [] ∧ rspErr (okByte 0xFF) = false ∧
      rspByte (okByte 0xFF) ≠ 0x1A) :=
  ⟨⟨onTurn_turn .i1 _, by decide⟩, onTurn_turn .i1 _, by decide⟩

theorem witness_ResetWriteEntersResetting : OnTurn (turn .i2w okWrite) 1 okWrite [] ∧ rspErr okWrite = false :=
  ⟨onTurn_turn .i2w _, rfl⟩

/-- The four clauses: clear; set without a limit; set one read before the limit; set at the limit. -/
theorem witness_PollReadTestsTheResetBit :
    let again (c : Config) (n : Nat) : State := { turn .i2p (okByte 0x40) with cfg := c, pollCount := n }
    rspErr (okByte 0xBF) = false ∧ rspErr (okByte 0x40) = false ∧
    (OnTurn (turn .i2p (okByte 0xBF)) 2 (okByte 0xBF) [] ∧ rspByte (okByte 0xBF) &&& ex.bReset = 0) ∧
    rspByte (okByte 0x40) &&& ex.bReset ≠ 0 ∧
    (OnTurn (again ex 0) 2 (okByte 0x40) [] ∧ (again ex 0).cfg.pollLimit = none) ∧
    (OnTurn (again (limited 3) 1) 2 (okByte 0x40) [] ∧ (again (limited 3) 1).cfg.pollLimit = some 3 ∧
      (again (limited 3) 1).pollCount + 1 < 3) ∧
    (OnTurn (again (limited 3) 2) 2 (okByte 0x40) [] ∧ (again (limited 3) 2).cfg.pollLimit = some 3 ∧
      3 ≤ (again (limited 3) 2).pollCount + 1) := by
  simp only [OnTurn]
  decide

theorem witness_ConfigurationWritesFallThrough :
    OnTurn (turn .i3 okWrite) 3 okWrite [] ∧ OnTurn (turn .i4 okWrite) 4 okWrite [] ∧
    OnTurn (turn .i5 okWrite) 5 okWrite [] ∧ OnTurn (turn .i6 okWrite) 6 okWrite [] ∧
    OnTurn (turn .i7 okWrite) 7 okWrite [] ∧ OnTurn (turn .i8 okWrite) 8 okWrite [] ∧
    OnTurn (turn .i9 okWrite) 9 okWrite [] ∧ OnTurn (turn .i10 okWrite) 10 okWrite [] ∧ rspErr okWrite = false :=
  ⟨onTurn_turn .i3 _, onTurn_turn .i4 _, onTurn_turn .i5 _, onTurn_turn .i6 _, onTurn_turn .i7 _, onTurn_turn .i8 _,
    onTurn_turn .i9 _, onTurn_turn .i10 _, rfl⟩

theorem witness_RangeWriteEntersConfigured : OnTurn (turn .i11 okWrite) 11 okWrite [] ∧ rspErr okWrite = false :=
  ⟨onTurn_turn .i11 _, rfl⟩

theorem witness_ReadBackKeepsTheByteInDiag :
    OnTurn (turn .i12 (okByte 0x5C)) 12 (okByte 0x5C) [] ∧ rspErr (okByte 0x5C) = false :=
  ⟨onTurn_turn .i12 _, by decide⟩

theorem witness_ActivationWriteEntersActive : OnTurn (turn .i13 okWrite) 13 okWrite [] ∧ rspErr okWrite = false :=
  ⟨onTurn_turn .i13 _, rfl⟩

theorem witness_OrientationWriteFinishesInit : OnTurn (turn .i14 okWrite) 14 okWrite [] ∧ rspErr okWrite = false :=
  ⟨onTurn_turn .i14 _, rfl⟩

theorem witness_TransientReadKeepsTheRawByte :
    (OnTurn (turn .t1 (okByte 0xFF)) 15 (okByte 0xFF) [] ∧ rspErr (okByte 0xFF) = false) ∧
    OnTurn (turn .t1 errWord) 15 errWord [] ∧ rspErr errWord = true :=
  ⟨⟨onTurn_turn .t1 _, by decide⟩, onTurn_turn .t1 _, by decide⟩

theorem witness_BlockReadUnpacksAndScales :
    OnTurn (turn .a2 sampleWord) 17 sampleWord [] ∧ rspErr sampleWord = false :=
  ⟨onTurn_turn .a2 _, by decide⟩

theorem witness_OrientationReadKeepsThreeBits :
    (OnTurn (turn .o1 (okByte 0xF8)) 18 (okByte 0xF8) [] ∧ rspErr (okByte 0xF8) = false) ∧
    OnTurn (turn .o1 errWord) 18 errWord [] ∧ rspErr errWord = true :=
  ⟨⟨onTurn_turn .o1 _, by decide⟩, onTurn_turn .o1 _, by decide⟩

theorem witness_TransportErrorFailsEveryMicroOp :
    (∀ m : MicroOp, OnTurn (turn m errWord) m.addr errWord []) ∧ rspErr errWord = true :=
  ⟨fun m => onTurn_turn m _, by decide⟩

theorem pending_one : ∀ p ∈ [okByte 0x40], ShowsResetPending ex p := by
  intro p h
  obtain rfl := List.mem_singleton.1 h
  exact ⟨by decide, by decide⟩

/-- P1: two poll reads; and the longest poll that a limit of 2 admits. -/
theorem witness_InitRunsItsWholeSequence :
    let tail := List.replicate 12 okWrite
    let s := idle (.issue (commandWord .init false) ::
      answering (okByte 0x1A :: okWrite :: ([okByte 0x40] ++ okByte 0x00 :: tail)))
    let s' := { s with cfg := limited 2 }
    s.busy = false ∧ s.inflight = false ∧ s.cfg.pollLimit = none ∧ (s'.cfg.pollLimit = some 2 ∧ [okByte 0x40].length < 2) ∧
    rspErr (okByte 0x1A) = false ∧ rspByte (okByte 0x1A) = 0x1A ∧ rspErr okWrite = false ∧
    (∀ p ∈ [okByte 0x40], ShowsResetPending ex p) ∧ ShowsResetDone ex (okByte 0x00) ∧ tail.length = 12 ∧
    (∀ p ∈ tail, rspErr p = false) ∧
    s.schedule = .issue (commandWord .init false) ::
      (answering (okByte 0x1A :: okWrite :: ([okByte 0x40] ++ okByte 0x00 :: tail)) ++ []) :=
  ⟨rfl, rfl, rfl, ⟨rfl, by decide⟩, by decide, by decide, rfl, pending_one, ⟨by decide, by decide⟩, rfl,
    fun _ h => by obtain rfl := List.eq_of_mem_replicate h; rfl, rfl⟩

/-- P5 one read before the limit, and at it. -/
theorem witness_BoundedPollTimesOutAtTheLimit :
    let s (n : Nat) : State :=
      { running .i2p (answering [okByte 0x40, okByte 0x42]) with cfg := limited 3, pollCount := n }
    (∀ n, (s n).busy = true ∧ (s n).inflight = false ∧ (s n).pc = 2 ∧ (s n).cfg.pollLimit = some 3 ∧
      (s n).schedule = answering [okByte 0x40, okByte 0x42] ++ []) ∧
    (∀ p ∈ [okByte 0x40, okByte 0x42], ShowsResetPending (limited 3) p) ∧
    (s 0).pollCount + 2 < 3 ∧ ((s 1).pollCount < 3 ∧ (s 1).pollCount + 2 = 3) := by
  refine ⟨fun _ => ⟨rfl, rfl, rfl, rfl, rfl⟩, fun p h => ?_, by decide⟩
  rcases List.mem_pair.1 h with rfl | rfl <;> exact ⟨by decide, by decide⟩

/-- A few answers; answers without end, at the poll and from the `INIT` on. -/
theorem witness_UnboundedPollNeverEnds :
    let s := running .i2p (answering [okByte 0x40])
    let s' := rounds (running .i2p []) (answering [okByte 0x40])
    let s'' := { idle (.issue (commandWord .init false) :: answering [okByte 0x1A, okWrite]) with
      thereafter := .repeating (answering [okByte 0x40]) }
    (s.busy = true ∧ s.inflight = false ∧ s.pc = 2 ∧ s.cfg.pollLimit = none ∧
      (∀ p ∈ [okByte 0x40], ShowsResetPending s.cfg p) ∧ s.schedule = answering [okByte 0x40] ++ []) ∧
    PollsForEver s' [okByte 0x40] ∧
    (s''.busy = false ∧ s''.inflight = false ∧ s''.cfg.pollLimit = none ∧ rspErr (okByte 0x1A) = false ∧
      rspByte (okByte 0x1A) = 0x1A ∧ rspErr okWrite = false ∧ [okByte 0x40] ≠ [] ∧
      (∀ p ∈ [okByte 0x40], ShowsResetPending s''.cfg p) ∧
      s''.schedule = .issue (commandWord .init false) :: answering [okByte 0x1A, okWrite] ∧
      s''.thereafter = .repeating (answering [okByte 0x40])) :=
  ⟨⟨rfl, rfl, rfl, rfl, pending_one, rfl⟩, ⟨rfl, rfl, rfl, rfl, by simp, pending_one, rfl, rfl⟩,
    rfl, rfl, rfl, by decide, by decide, rfl, by simp, pending_one, rfl, rfl⟩

theorem witness_RdtsrcRunsOneTransaction :
    let s := idle [.issue (commandWord .rdtsrc false), .txnIssue, .txnComplete (okByte 0x44)]
    s.busy = false ∧ s.inflight = false ∧
    s.schedule = .issue (commandWord .rdtsrc false) :: .txnIssue :: .txnComplete (okByte 0x44) :: [] := by decide

theorem witness_GetoriRunsOneTransaction :
    let s := idle [.issue (commandWord .getori true), .txnIssue, .txnComplete errWord]
    s.busy = false ∧ s.inflight = false ∧
    s.schedule = .issue (commandWord .getori true) :: .txnIssue :: .txnComplete errWord :: [] := by decide

theorem witness_GetaccRunsLatchThenBlockRead :
    let s := idle (.issue (commandWord .getacc true) :: answering [okWrite, sampleWord])
    s.busy = false ∧ s.inflight = false ∧ rspErr okWrite = false ∧ rspErr sampleWord = false ∧
    s.schedule = .issue (commandWord .getacc true) :: (answering [okWrite, sampleWord] ++ []) := by decide

/-- `Err` at A1, and `Err` at A2. -/
theorem witness_FailedGetaccKeepsTheOldReading :
    let s := idle (.issue (commandWord .getacc true) :: answering [errWord])
    let s' := idle (.issue (commandWord .getacc true) :: answering [okWrite, errWord])
    (s.busy = false ∧ s.inflight = false ∧ rspErr errWord = true ∧
      s.schedule = .issue (commandWord .getacc true) :: (answering [errWord] ++ [])) ∧
    (s'.busy = false ∧ s'.inflight = false ∧ rspErr okWrite = false ∧
      s'.schedule = .issue (commandWord .getacc true) :: (answering [okWrite, errWord] ++ [])) := by decide

theorem witness_EveryCommandEndsWithinItsBound :
    let rs := List.replicate 15 errWord
    let s := { idle (.issue 0b000 :: answering rs) with cfg := limited 1 }
    s.busy = false ∧ s.inflight = false ∧ s.cfg.pollLimit = some 1 ∧ 0 < 1 ∧ rs.length = 14 + 1 ∧
    s.schedule = .issue 0b000 :: answering rs := by decide

theorem witness_ResetStepRestoresControlState :
    (waiting .a2 okWrite).inflight = true ∧
    { waiting .a2 okWrite with schedule := [.reset] }.schedule = .reset :: [] := by decide

/-- Nothing to come; and commands presented for ever to a block whose request is never answered. -/
theorem witness_NothingMovesWithoutAnEvent :
    let s := { waiting .a2 okWrite with schedule := [] }
    ((idle []).schedule = [] ∧ (idle []).thereafter = .repeating [] ∧ (idle []).busy = false) ∧
    (s.schedule = [] ∧ s.thereafter = .repeating [] ∧ s.inflight = true) ∧
    (rounds s [.issue 0b010]).busy = true ∧ (rounds s [.issue 0b010]).inflight = true ∧
      TransportSilent (rounds s [.issue 0b010]) :=
  ⟨⟨rfl, rfl, rfl⟩, ⟨rfl, rfl, rfl⟩, rfl, rfl, by simp [rounds], [.issue 0b010], rfl, by simp⟩

/-- Each of the three kinds of event that can be disabled. -/
theorem witness_DisabledEventsChangeNothing :
    let s := running .i3 [.issue 0b010]
    let s' := idle [.txnIssue]
    let s'' := rounds (idle []) [.txnComplete okWrite]
    (s.pick = some (.issue 0b010, running .i3 []) ∧ s.enables (.issue 0b010) = false) ∧
    (s'.pick = some (.txnIssue, idle []) ∧ s'.enables .txnIssue = false) ∧
    (s''.pick = some (.txnComplete okWrite, s'') ∧ s''.enables (.txnComplete okWrite) = false) := by decide

/-- A repeating answer keeps an unlimited `INIT` at the poll: the third step begins the second round. -/
theorem test_poll_goes_on_in_the_next_round :
    let s := rounds (running .i2p []) [.txnIssue, .txnComplete (okByte 0x40)]
    let t := next (next s)
    t.schedule = [] ∧ t.thereafter = s.thereafter ∧ t.pc = 2 ∧ t.busy = true ∧ (next t).inflight = true := by decide

/-- The block waiting for the answer to A2, after an answered A1. -/
def inGetacc : State :=
  { waiting .a2 sampleWord with
    trace := [⟨MicroOp.a1.request ex, some .okWrite⟩, ⟨MicroOp.a2.request ex, none⟩] }

theorem inGetacc_control : ControlInv inGetacc :=
  ⟨by decide, by decide, by decide, by decide, fun _ h => by cases h⟩

theorem inGetacc_trace : TraceInv inGetacc := by
  refine ⟨[⟨MicroOp.a1.request ex, some .okWrite⟩], fun e he => ⟨.a1, .okWrite, ?_⟩, .a2, by decide, by decide⟩
  obtain rfl := List.mem_singleton.1 he
  decide

theorem inGetacc_order : OrderInv inGetacc := by
  refine ⟨[(.a1, some .okWrite), (.a2, none)], by decide, ?_, .a2, by decide, rfl⟩
  exact .snoc [(.a1, some .okWrite)] .a2 none (.snoc [] .a1 _ .nil rfl) ⟨.okWrite, rfl, .inl rfl⟩

theorem inGetacc_step : step inGetacc = .next (next inGetacc) := rfl

theorem witness_EveryStepKeepsTheControlInvariant : ControlInv inGetacc ∧ step inGetacc = .next (next inGetacc) :=
  ⟨inGetacc_control, inGetacc_step⟩

theorem witness_EveryStepKeepsTheTraceInvariant :
    ControlInv inGetacc ∧ TraceInv inGetacc ∧ step inGetacc = .next (next inGetacc) :=
  ⟨inGetacc_control, inGetacc_trace, inGetacc_step⟩

theorem witness_EveryStepKeepsTheLegalOrder : Inv inGetacc ∧ step inGetacc = .next (next inGetacc) :=
  ⟨⟨inGetacc_control, inGetacc_trace, inGetacc_order⟩, inGetacc_step⟩

/-- A trace in which A2 stands directly after A1. -/
theorem witness_LegalOrderKeepsTheHazards :
    OrderInv inGetacc ∧
      [(MicroOp.a1, some Response.okWrite), (.a2, none)] = [(.a1, some .okWrite)] ++ (.a2, none) :: [] :=
  ⟨inGetacc_order, rfl⟩

/-- A `GETACC` in flight while the driver state is `Active`, with a successful `INIT` on record. -/
theorem witness_EveryStepKeepsActiveMeansInitSucceeded :
    let s := { inGetacc with dstate := .active }
    ControlInv s ∧ ActiveInv s true ∧ s.dstate = .active ∧ s.cmd ≠ .init ∧ step s = .next (next s) :=
  ⟨⟨by decide, by decide, by decide, by decide, fun _ h => by cases h⟩, fun _ _ => rfl, rfl, by decide, rfl⟩

theorem witness_MachineNeverStops : ControlInv inGetacc := inGetacc_control

theorem witness_NoStepChangesTheConfiguration : step inGetacc = .next (next inGetacc) := inGetacc_step

/-- Waiting states under EX meet the control invariant. -/
theorem waiting_control (m : MicroOp) (r : RspWord) (d : DState) : ControlInv { waiting m r with dstate := d } :=
  ⟨fun _ => rfl, fun _ => rfl, fun _ => by cases m <;> rfl, (by cases m <;> decide : m.addr.toNat ≤ 18),
    fun _ h => by cases h⟩

/-- Each of the four values the driver state can take. -/
theorem witness_DriverStateIsWrittenOnlyAsStated :
    (∀ m r d, ControlInv { waiting m r with dstate := d }) ∧
    (step (waiting .i2w okWrite) = .next (next (waiting .i2w okWrite)) ∧
      (next (waiting .i2w okWrite)).dstate ≠ .uninitialized ∧ (next (waiting .i2w okWrite)).dstate = .resetting) ∧
    (next { waiting .i11 okWrite with dstate := .resetting }).dstate = .configured ∧
    (next { waiting .i13 okWrite with dstate := .configured }).dstate = .active ∧
    (next { waiting .t1 errWord with dstate := .active }).dstate = .uninitialized :=
  ⟨waiting_control, ⟨rfl, by decide⟩, by decide⟩

/-- Each payload register changes somewhere. -/
theorem witness_PayloadIsWrittenOnlyAsStated :
    let t := next { inGetacc with useG := true }
    resets (waiting .i12 (okByte 0x5C)) = false ∧ (next (waiting .i12 (okByte 0x5C))).diag ≠ 0 ∧
    resets (waiting .t1 (okByte 0x44)) = false ∧ (next (waiting .t1 (okByte 0x44))).resByte ≠ 0 ∧
    resets inGetacc = false ∧ t.sample ≠ inGetacc.sample ∧ t.resX ≠ 0 ∧ t.resZ ≠ 0 ∧ t.unit ≠ inGetacc.unit := by
  decide

/-- A step that ends a command, one that does not, and an accepted command. -/
theorem witness_ResultFlagsChangeOnlyAtCommandEnds :
    ControlInv inGetacc ∧ resets inGetacc = false ∧ step inGetacc = .next (next inGetacc) ∧
    endsIn inGetacc (next inGetacc) = true ∧
    endsIn (waiting .a1 okWrite) (next (waiting .a1 okWrite)) = false ∧
    (next { idle [.issue 0b001] with done := true }).done ≠ true :=
  ⟨inGetacc_control, by decide, rfl, by decide⟩

theorem witness_DriverStateNeverGatesATransaction :
    SameControl inGetacc { inGetacc with dstate := .active, status := .protocolTimeout, resX := 5 } ∧
    step inGetacc = .next (next inGetacc) :=
  ⟨⟨rfl, rfl, rfl, rfl, rfl, rfl, rfl, rfl, rfl, rfl⟩, rfl⟩

theorem witness_UnpackerHasThreeEquivalentForms : 14 ≤ 14 ∧ 14 ≤ 34 := by decide

theorem witness_UnpackerRoundTrip : (-8192 : Int) ≤ -8192 ∧ (-8192 : Int) ≤ 8191 ∧ (8191 : Int) ≤ 8191 := by decide

/-- Both ends of the range, and a width (34) that holds every result. -/
theorem witness_ScaledNumeratorIsExact :
    (-8192 : Int) ≤ -8192 ∧ (8191 : Int) ≤ 8191 ∧
    ∀ (s : Int) (u : Bool), -8192 ≤ s → s ≤ 8191 → (BitVec.ofInt 34 (scale s u)).toInt = scale s u :=
  ⟨by decide, by decide, numeratorOf_scale⟩

theorem witness_ResultValueIsTheExactRational : (-8192 : Int) ≤ -8192 ∧ (8191 : Int) ≤ 8191 := by decide

end Sys2Proof.Tests
end

/-!
The steps `Issue`, `TxnIssue` and `Reset` (10_state R41 to R43): what performing each event does to any state,
and the three statements about a step whose schedule begins with it.
-/

namespace Sys2Proof.Machine

/-! ## When the block has a transaction to issue -/

theorem canIssueTxn_eq_true {s : State} : s.canIssueTxn = true ↔ s.busy = true ∧ s.inflight = false := by
  simp [State.canIssueTxn]

theorem canIssueTxn_eq_false {s : State} : s.canIssueTxn = false ↔ s.busy = false ∨ s.inflight = true := by
  simp [State.canIssueTxn, ← Bool.not_eq_true, imp_iff_not_or]

/-! ## The effect of an event -/

theorem perform_reset (s : State) : perform .reset s = .next s.blockReset := rfl

/-- Any command word is presented as the opcode and the operand bit it holds (30_encoding R80, R83). -/
theorem perform_issue (w : CmdWord) (s : State) :
    perform (.issue w) s =
      .next (if s.busy then s else s.accept (Cmd.ofCode (w.extractLsb' 0 2)) (w.getLsbD 2)) := by
  rw [perform, decodeCommand, exec_instr, presentCommand_eq]

theorem perform_txnIssue_send {s : State} {m : MicroOp} (h : s.canIssueTxn = true) (hm : microOpAt s.pc = some m) :
    perform .txnIssue s = .next (s.send (m.request s.cfg)) :=
  runMicroOp_send h hm

theorem perform_txnIssue_pass {s : State} (h : s.canIssueTxn = false) : perform .txnIssue s = .next s :=
  runMicroOp_pass h

/-- `step` is a function: how a "whatever next state it answers" clause follows from the step's value. -/
theorem eq_of_step_next {s t u : State} (hu : step s = .next u) (ht : step s = .next t) : t = u :=
  Host.Outcome.next.inj (ht.symm.trans hu)

/-! ## The statements -/

/-- Settles O15: the event is performed on the state without it, where `accept` is R42's update. -/
theorem issueLatchesTheCommandWord : Obligations.IssueLatchesTheCommandWord := by
  intro s w rest hs
  have performed := (step_of_schedule hs).trans (perform_issue w (s.withSchedule rest))
  constructor
  · intro idle
    simpa [idle, State.accept, State.withSchedule] using performed
  · intro busy t ht
    have unchanged : step s = .next (s.withSchedule rest) := by simpa [busy] using performed
    exact eq_of_step_next unchanged ht

/-- Settles O16: the ROM's word at `pc` decodes and executes to the sending of the micro-op's request. -/
theorem blockIssuesTheRequestAtPc : Obligations.BlockIssuesTheRequestAtPc := by
  intro s m rest hs hm
  have taken := step_of_schedule hs
  constructor
  · intro busy idleBus
    have enabled : (s.withSchedule rest).canIssueTxn = true := canIssueTxn_eq_true.mpr ⟨busy, idleBus⟩
    exact taken.trans (perform_txnIssue_send enabled hm)
  · intro disabled t ht
    have passes : (s.withSchedule rest).canIssueTxn = false := canIssueTxn_eq_false.mpr disabled
    exact eq_of_step_next (taken.trans (perform_txnIssue_pass passes)) ht

/-- Settles O39: the next state is `blockReset` of the state without the event, whatever was outstanding. -/
theorem resetStepRestoresControlState : Obligations.ResetStepRestoresControlState := by
  intro s rest hs
  have performed := (step_of_schedule hs).trans (perform_reset (s.withSchedule rest))
  exact ⟨(s.withSchedule rest).blockReset, performed, by simp [Cmd.code, DState.code, Status.code]⟩

end Sys2Proof.Machine

/-! # 20_memory: the configuration and the ROM are fixed -/

namespace Sys2Proof.Machine

/-- Performing an event keeps the configuration, whichever event it is (00_scope R7). -/
theorem Performed.cfg_eq {s t : State} {e : Event} (h : Performed s e t) : t.cfg = s.cfg := by
  cases h with
  | reset => exact State.blockReset_cfg s
  | accepted => exact State.accept_cfg s _ _
  | sent => exact State.send_cfg s _
  | completed m r => exact (completeMicroOp_cfg m r _).trans (State.answered_cfg s _)
  | turnedAway | passed | unsolicited => rfl

theorem step_cfg {s t : State} (h : step s = .next t) : t.cfg = s.cfg := by
  obtain ⟨-, rfl⟩ | ⟨e, u, -, taken, performed⟩ := step_next h
  · rfl
  · calc t.cfg = u.cfg := performed.cfg_eq
      _ = s.cfg := by rw [taken]

/-- Settles O49: a micro-op's request is a function of the configuration, which every event keeps. -/
theorem noStepChangesTheConfiguration : Obligations.NoStepChangesTheConfiguration := by
  intro s t h
  have kept : t.cfg = s.cfg := step_cfg h
  exact ⟨kept, fun m => congrArg m.request kept⟩

end Sys2Proof.Machine

/-! # 30_encoding: the command word's opcode and the rows of the sequence ROM -/

namespace Sys2Proof

theorem decodeCommand_of_opcode {w : CmdWord} {c : Cmd} (opcode : w.extractLsb' 0 2 = c.code) :
    decodeCommand w = c.instr (w.getLsbD 2) := by
  rw [decodeCommand, opcode, Cmd.ofCode_code]

/-- Settles O5: the opcode bits are the code of one of the four commands, which `Cmd.ofCode` gives back. -/
theorem commandWordsDecodeByOpcode : Obligations.CommandWordsDecodeByOpcode := fun _ =>
  ⟨decodeCommand_of_opcode (c := .init), decodeCommand_of_opcode (c := .rdtsrc),
    decodeCommand_of_opcode (c := .getacc), decodeCommand_of_opcode (c := .getori)⟩

end Sys2Proof

namespace Sys2Proof.Machine

/-- The order of 30_encoding R86, apart from the configuration that fills in the requests. -/
theorem map_microOpAt_range :
    (List.range 19).map (fun p => microOpAt (BitVec.ofNat 5 p)) =
      [.i1, .i2w, .i2p, .i3, .i4, .i5, .i6, .i7, .i8, .i9, .i10, .i11, .i12, .i13, .i14,
        .t1, .a1, .a2, .o1].map some := by decide

/-- Settles O17: the micro-ops stand in the table's order, and each one's request is its row under any configuration. -/
theorem sequenceRomHoldsNineteenRows : Obligations.SequenceRomHoldsNineteenRows := by
  intro c
  calc (List.range 19).map (fun p => (microOpAt (BitVec.ofNat 5 p)).map (MicroOp.request c))
      = ((List.range 19).map (fun p => microOpAt (BitVec.ofNat 5 p))).map (Option.map (MicroOp.request c)) := by
        rw [List.map_map]; rfl
    _ = _ := by rw [map_microOpAt_range]; rfl

end Sys2Proof.Machine

/-! # 41_init: the micro-ops of `INIT`, and a whole successful `INIT` -/

namespace Sys2Proof

theorem decodeResponse_read {r : RspWord} (ok : rspErr r = false) : decodeResponse .rd r = .okByte (rspByte r) := by
  simp [decodeResponse, ok]

theorem decodeResponse_write {r : RspWord} (ok : rspErr r = false) : decodeResponse .wr r = .okWrite := by
  simp [decodeResponse, ok]

theorem decodeCommand_commandWord (c : Cmd) (g : Bool) : decodeCommand (commandWord c g) = c.instr g := by
  rw [decodeCommand_of_opcode (commandWord_code c g)]
  exact congrArg c.instr (commandWord_operand c g)

end Sys2Proof

namespace Sys2Proof.Machine

theorem perform_command (c : Cmd) (g : Bool) {s : State} (idle : s.busy = false) :
    perform (.issue (commandWord c g)) s = .next (s.accept c g) := by
  rw [perform, decodeCommand_commandWord, exec_instr, presentCommand_eq, idle]
  rfl

theorem completeMicroOp_ok {m : MicroOp} {r : RspWord} (ok : rspErr r = false) (s : State) :
    completeMicroOp m r s = completeOk m r s := by
  simp [completeMicroOp, ok]

/-! ## The identity check (41_init R118) -/

theorem completeI1_match {b : Byte} (h : b = 0x1A) (s : State) : completeI1 b s = s.goto 1 :=
  if_pos (decide_eq_true h)

theorem completeI1_mismatch {b : Byte} (h : b ≠ 0x1A) (s : State) : completeI1 b s = s.fail .deviceNotFound :=
  if_neg fun matched => h (of_decide_eq_true matched)

/-! ## The poll (41_init R120) -/

theorem resetBitClear_eq_true {c : Config} {b : Byte} : resetBitClear c b = true ↔ b &&& c.bReset = 0 :=
  decide_eq_true_iff

theorem pollCounted_of_none {c : Config} (h : c.pollLimit = none) (count : Nat) : pollCounted c count = count := by
  simp [pollCounted, h]

theorem pollCounted_of_some {c : Config} {n : Nat} (h : c.pollLimit = some n) (count : Nat) :
    pollCounted c count = count + 1 := by
  simp [pollCounted, h]

theorem pollLimitReached_eq_false {c : Config} {count : Nat} :
    pollLimitReached c count = false ↔ ∀ n, c.pollLimit = some n → count + 1 < n := by
  cases h : c.pollLimit <;> simp [pollLimitReached, h]

theorem pollLimitReached_of_some {c : Config} {n count : Nat} (h : c.pollLimit = some n) (last : n ≤ count + 1) :
    pollLimitReached c count = true := by
  simpa [pollLimitReached, h] using last

theorem completeI2P_clear {b : Byte} {s : State} (clear : b &&& s.cfg.bReset = 0) : completeI2P b s = s.goto 3 :=
  if_pos (resetBitClear_eq_true.mpr clear)

theorem completeI2P_pending {b : Byte} {s : State} (atPoll : s.pc = 2) (set : b &&& s.cfg.bReset ≠ 0)
    (room : ∀ n, s.cfg.pollLimit = some n → s.pollCount + 1 < n) :
    completeI2P b s = { s with pollCount := pollCounted s.cfg s.pollCount } := by
  rw [completeI2P, if_neg (resetBitClear_eq_true.not.mpr set), pollLimitReached_eq_false.mpr room, ← atPoll]
  rfl

theorem completeI2P_timeout {b : Byte} {s : State} {n : Nat} (set : b &&& s.cfg.bReset ≠ 0)
    (limit : s.cfg.pollLimit = some n) (last : n ≤ s.pollCount + 1) :
    completeI2P b s = s.fail .protocolTimeout := by
  rw [completeI2P, if_neg (resetBitClear_eq_true.not.mpr set), if_pos (pollLimitReached_of_some limit last)]

end Sys2Proof.Machine

namespace Sys2Proof.Safety

open Sys2Proof Sys2Proof.Machine

/-! ## One turn with a successful response -/

/-- The turn of a micro-op that reads one register (41_init R117). -/
theorem run_read {s : State} {m : MicroOp} {r : RspWord} {rest : List Event} (h : OnTurn s m.addr r rest)
    (reads : m.kind = .rd) (ok : rspErr r = false) :
    run 2 s = .next (completeOk m r { s with
      inflight := false
      trace := s.trace ++ [⟨m.request s.cfg, some (.okByte (rspByte r))⟩]
      schedule := rest }) := by
  rw [run_turn h, completeMicroOp_ok ok, reads, decodeResponse_read ok]

/-- The turn of a micro-op that writes one register (41_init R117). -/
theorem run_write {s : State} {m : MicroOp} {r : RspWord} {rest : List Event} (h : OnTurn s m.addr r rest)
    (writes : m.kind = .wr) (ok : rspErr r = false) :
    run 2 s = .next (completeOk m r { s with
      inflight := false
      trace := s.trace ++ [⟨m.request s.cfg, some .okWrite⟩]
      schedule := rest }) := by
  rw [run_turn h, completeMicroOp_ok ok, writes, decodeResponse_write ok]

theorem entryOf_read {m : MicroOp} {r : RspWord} (c : Config) (reads : m.kind = .rd) (ok : rspErr r = false) :
    entryOf c m r = ⟨m.request c, some (.okByte (rspByte r))⟩ := by
  rw [entryOf, reads, decodeResponse_read ok]

theorem entryOf_write {m : MicroOp} {r : RspWord} (c : Config) (writes : m.kind = .wr) (ok : rspErr r = false) :
    entryOf c m r = ⟨m.request c, some .okWrite⟩ := by
  rw [entryOf, writes, decodeResponse_write ok]

/-- A poll read that shows the bit set, below the limit, keeps the block at the poll (41_init R120). -/
theorem run_pendingPoll {s : State} {r : RspWord} {rest : List Event} (h : OnTurn s 2 r rest)
    (pending : ShowsResetPending s.cfg r) (room : ∀ n, s.cfg.pollLimit = some n → s.pollCount + 1 < n) :
    run 2 s = .next { s with
      pollCount := pollCounted s.cfg s.pollCount
      inflight := false
      trace := s.trace ++ [entryOf s.cfg .i2p r]
      schedule := rest } := by
  obtain ⟨ok, set⟩ := pending
  have ⟨_, _, atPoll, _⟩ := h
  rw [entryOf_read s.cfg rfl ok]
  exact (run_read (m := .i2p) h rfl ok).trans (congrArg _ (completeI2P_pending atPoll set room))

/-- A write whose completion is only `pc <- next` falls through. -/
theorem writeFallsThrough_of_goto {m : MicroOp} (next : BitVec 5) (writes : m.kind = .wr)
    (goes : ∀ r s, completeOk m r s = s.goto next) :
    WriteFallsThrough m.addr next (fun c => m.reg c) (fun c => m.wdata c) := by
  intro s r rest h ok
  rw [run_write h writes ok, goes]
  simp [State.goto, MicroOp.request, writes]

/-! ## The statements about one micro-op -/

/-- Settles O18: the completion of I1 is `goto 1` on the device's own byte and `fail` on any other. -/
theorem identityReadAdmitsOnlyTheDeviceId : Obligations.IdentityReadAdmitsOnlyTheDeviceId := by
  intro s r rest h ok
  have turn := run_read (m := .i1) h rfl ok
  constructor
  · intro known
    exact turn.trans (congrArg _ (completeI1_match known _))
  · intro other
    exact turn.trans (congrArg _ (completeI1_mismatch other _))

/-- Settles O19: a write whose completion is R119's update. -/
theorem resetWriteEntersResetting : Obligations.ResetWriteEntersResetting :=
  fun _ _ _ h ok => run_write (m := .i2w) h rfl ok

/-- Settles O20: the completion of I2P by the reset bit and the limit; where the poll goes on, `pc` is 2 already. -/
theorem pollReadTestsTheResetBit : Obligations.PollReadTestsTheResetBit := by
  intro s r rest h ok trace'
  have turn := run_read (m := .i2p) h rfl ok
  refine ⟨fun clear => ?_, fun set unlimited => ?_, fun n set limit below => ?_, fun n set limit last => ?_⟩
  · exact turn.trans (congrArg _ (completeI2P_clear clear))
  · rw [run_pendingPoll h ⟨ok, set⟩ (by simp [unlimited]), pollCounted_of_none unlimited, entryOf_read s.cfg rfl ok]
    rfl
  · rw [run_pendingPoll h ⟨ok, set⟩ (by simpa [limit] using below), pollCounted_of_some limit, entryOf_read s.cfg rfl ok]
    rfl
  · exact turn.trans (congrArg _ (completeI2P_timeout set limit last))

/-- Settles O21: the completion of each of the eight micro-ops is `goto` the next place. -/
theorem configurationWritesFallThrough : Obligations.ConfigurationWritesFallThrough :=
  ⟨writeFallsThrough_of_goto (m := .i3) 4 rfl fun _ _ => rfl,
    writeFallsThrough_of_goto (m := .i4) 5 rfl fun _ _ => rfl,
    writeFallsThrough_of_goto (m := .i5) 6 rfl fun _ _ => rfl,
    writeFallsThrough_of_goto (m := .i6) 7 rfl fun _ _ => rfl,
    writeFallsThrough_of_goto (m := .i7) 8 rfl fun _ _ => rfl,
    writeFallsThrough_of_goto (m := .i8) 9 rfl fun _ _ => rfl,
    writeFallsThrough_of_goto (m := .i9) 10 rfl fun _ _ => rfl,
    writeFallsThrough_of_goto (m := .i10) 11 rfl fun _ _ => rfl⟩

/-- Settles O22: a write whose completion is R130's update. -/
theorem rangeWriteEntersConfigured : Obligations.RangeWriteEntersConfigured :=
  fun _ _ _ h ok => run_write (m := .i11) h rfl ok

/-- Settles O23: a read whose completion keeps the byte and tests none of its bits. -/
theorem readBackKeepsTheByteInDiag : Obligations.ReadBackKeepsTheByteInDiag :=
  fun _ _ _ h ok => run_read (m := .i12) h rfl ok

/-- Settles O24: the request of I13 is the ROM's, in which `diag` has no part. -/
theorem activationWriteEntersActive : Obligations.ActivationWriteEntersActive :=
  fun _ _ _ h ok => run_write (m := .i13) h rfl ok

/-- Settles O25: a write whose completion is `finish`. -/
theorem orientationWriteFinishesInit : Obligations.OrientationWriteFinishesInit :=
  fun _ _ _ h ok => run_write (m := .i14) h rfl ok

/-! ## Several turns one after the other -/

theorem answering_cons (r : RspWord) (rs : List RspWord) :
    answering (r :: rs) = .txnIssue :: .txnComplete r :: answering rs := rfl

theorem answering_append (rs rs' : List RspWord) : answering (rs ++ rs') = answering rs ++ answering rs' :=
  List.flatMap_append

theorem run_trans {a b : Nat} {s t u : State} (first : run a s = .next t) (second : run b t = .next u) :
    run (a + b) s = .next u :=
  (run_add a b s t first).trans second

/-- An idle block takes the command that comes next (10_state R42). -/
theorem run_command {s : State} {c : Cmd} {g : Bool} {rest : List Event} (idle : s.busy = false)
    (hs : s.schedule = .issue (commandWord c g) :: rest) :
    run 1 s = .next ((s.withSchedule rest).accept c g) := by
  have taken : step s = .next ((s.withSchedule rest).accept c g) :=
    (step_of_schedule hs).trans (perform_command c g (s := s.withSchedule rest) idle)
  simp [run, taken]

/-- A micro-op's whole turn with a success, which takes the two events off the schedule. -/
def succeed (s : State) (p : MicroOp × RspWord) : State :=
  completeOk p.1 p.2 { s with
    inflight := false
    trace := s.trace ++ [entryOf s.cfg p.1 p.2]
    schedule := s.schedule.drop 2 }

theorem run_succeed {s : State} {m : MicroOp} {r : RspWord} {rest : List Event} (h : OnTurn s m.addr r rest)
    (ok : rspErr r = false) : run 2 s = .next (succeed s (m, r)) := by
  have ⟨_, _, _, hs⟩ := h
  have taken : s.schedule.drop 2 = rest := by simp [hs]
  rw [run_turn h, completeMicroOp_ok ok, succeed, taken]
  rfl

theorem succeed_bus {p : MicroOp × RspWord} (ok : rspErr p.2 = false) (s : State) :
    (succeed s p).inflight = false ∧ (succeed s p).cfg = s.cfg ∧ (succeed s p).schedule = s.schedule.drop 2 ∧
    (succeed s p).trace = s.trace ++ [entryOf s.cfg p.1 p.2] := by
  rw [succeed, ← completeMicroOp_ok ok]
  simp

/-- Every success of `m` leads the command on to `m'`. -/
def LeadsTo (m m' : MicroOp) : Prop :=
  ∀ (r : RspWord) (s : State), (completeOk m r s).busy = s.busy ∧ (completeOk m r s).pc = m'.addr

/-- Micro-ops that lead one to the next take their turns in that order while the responses are successes. -/
theorem run_chain {ms : List MicroOp} {rs : List RspWord} {s : State} {rest : List Event}
    (chain : ms.IsChain LeadsTo) (same : ms.length = rs.length) (ok : ∀ r ∈ rs, rspErr r = false)
    (start : ∀ m ∈ ms.head?, s.busy = true ∧ s.pc = m.addr) (free : s.inflight = false)
    (hs : s.schedule = answering rs ++ rest) :
    run (2 * rs.length) s = .next { (ms.zip rs).foldl succeed s with
      inflight := false
      trace := s.trace ++ List.zipWith (entryOf s.cfg) ms rs
      schedule := rest } := by
  induction ms generalizing rs s with
  | nil =>
    obtain rfl : rs = [] := List.length_eq_zero_iff.mp same.symm
    obtain rfl : s.schedule = rest := hs
    simp [run, ← free]
  | cons m ms ih =>
    obtain ⟨r, rs, rfl⟩ := List.exists_of_length_succ rs same.symm
    obtain ⟨leads, chain⟩ := List.isChain_cons.mp chain
    obtain ⟨hb, hp⟩ := start m rfl
    have okHead : rspErr r = false := ok r List.mem_cons_self
    obtain ⟨inflight, cfg, schedule, trace⟩ := succeed_bus (p := (m, r)) okHead s
    have turn : run 2 s = .next (succeed s (m, r)) := run_succeed ⟨hb, free, hp, hs⟩ okHead
    have others := ih (s := succeed s (m, r)) chain (Nat.succ.inj same) (fun p hp => ok p (List.mem_cons_of_mem r hp))
      (fun m' hm' => ⟨(leads m' hm' r _).1.trans hb, (leads m' hm' r _).2⟩) inflight
      (by rw [schedule, hs, answering_cons]; rfl)
    rw [List.length_cons, Nat.mul_succ, Nat.add_comm]
    simpa [cfg, trace] using run_trans turn others

/-! ## The poll, and what follows it -/

/-- Poll reads that show the bit set, fewer than a limit, leave the block at the poll (41_init R120, R121). -/
theorem run_polls {s : State} {polls : List RspWord} {rest : List Event} (busy : s.busy = true)
    (free : s.inflight = false) (atPoll : s.pc = 2) (pending : ∀ p ∈ polls, ShowsResetPending s.cfg p)
    (room : ∀ n, s.cfg.pollLimit = some n → s.pollCount + polls.length < n)
    (hs : s.schedule = answering polls ++ rest) :
    run (2 * polls.length) s = .next { s with
      pollCount := (pollCounted s.cfg)^[polls.length] s.pollCount
      trace := s.trace ++ polls.map (entryOf s.cfg .i2p)
      schedule := rest } := by
  induction polls generalizing s with
  | nil =>
    obtain rfl : s.schedule = rest := by simpa [answering] using hs
    simp [run]
  | cons p polls ih =>
    have below (n : Nat) (limit : s.cfg.pollLimit = some n) : s.pollCount + 1 + polls.length < n := by
      have := List.length_cons ▸ room n limit
      omega
    have turn := run_pendingPoll ⟨busy, free, atPoll, hs⟩ (pending p List.mem_cons_self) fun n limit =>
      (Nat.le_add_right _ _).trans_lt (below n limit)
    have others := ih (s := { s with
        pollCount := pollCounted s.cfg s.pollCount
        inflight := false
        trace := s.trace ++ [entryOf s.cfg .i2p p]
        schedule := answering polls ++ rest }) busy rfl atPoll (fun q hq => pending q (List.mem_cons_of_mem p hq))
      (fun n limit => by simpa only [pollCounted_of_some limit] using below n limit) rfl
    rw [List.length_cons, Nat.mul_succ, Nat.add_comm]
    simpa [Function.iterate_succ_apply, free] using run_trans turn others

/-- The micro-ops of `INIT` after its last poll read (41_init R116). -/
def afterPoll : List MicroOp :=
  [.i3, .i4, .i5, .i6, .i7, .i8, .i9, .i10, .i11, .i12, .i13, .i14]

theorem afterPoll_leads : afterPoll.IsChain LeadsTo := by
  simp [afterPoll, LeadsTo, completeOk, MicroOp.addr, completeI3, completeI4, completeI5, completeI6, completeI7,
    completeI8, completeI9, completeI10, completeI11, completeI12, completeI13]

/-- The completion actions of those micro-ops together (41_init R122 to R133). -/
theorem succeed_afterPoll {tail : List RspWord} (twelve : tail.length = 12) (s : State) :
    (afterPoll.zip tail).foldl succeed s = { s with
      busy := false
      done := true
      inflight := false
      pc := 14
      dstate := .active
      status := .ok
      diag := rspByte (tail.getD 9 0)
      trace := ((afterPoll.zip tail).foldl succeed s).trace
      schedule := ((afterPoll.zip tail).foldl succeed s).schedule } := by
  match tail, twelve with
  | [r3, r4, r5, r6, r7, r8, r9, r10, r11, r12, r13, r14], _ =>
    simp only [afterPoll, List.zip_cons_cons, List.zip_nil_left, List.foldl_cons, List.foldl_nil, succeed, completeOk,
      completeI3, completeI4, completeI5, completeI6, completeI7, completeI8, completeI9, completeI10, completeI11,
      completeI12, completeI13, completeI14, State.goto, State.finish, List.getD_cons_succ, List.getD_cons_zero]

/-- The rest of `INIT` after its poll: nothing but a failure stops it (41_init R122 to R133). -/
theorem run_afterPoll {s : State} {tail : List RspWord} {rest : List Event} (busy : s.busy = true)
    (free : s.inflight = false) (start : s.pc = 3) (twelve : tail.length = 12)
    (ok : ∀ r ∈ tail, rspErr r = false) (hs : s.schedule = answering tail ++ rest) :
    run 24 s = .next { s with
      busy := false
      done := true
      inflight := false
      pc := 14
      dstate := .active
      status := .ok
      diag := rspByte (tail.getD 9 0)
      trace := s.trace ++ List.zipWith (entryOf s.cfg) afterPoll tail
      schedule := rest } := by
  have turns := run_chain (s := s) afterPoll_leads twelve.symm ok
    (by simp [afterPoll, busy, start, MicroOp.addr]) free hs
  rwa [twelve, succeed_afterPoll twelve] at turns

/-! ## A whole successful `INIT` -/

/-- The first two transactions of an admitted `INIT` (41_init R118, R119). -/
theorem run_identityThenReset {s : State} {idR wrR : RspWord} {rest : List Event} (busy : s.busy = true)
    (free : s.inflight = false) (start : s.pc = 0) (okId : rspErr idR = false) (known : rspByte idR = 0x1A)
    (okWr : rspErr wrR = false) (hs : s.schedule = answering [idR, wrR] ++ rest) :
    run 4 s = .next { s with
      inflight := false
      pc := 2
      pollCount := 0
      dstate := .resetting
      trace := s.trace ++ [entryOf s.cfg .i1 idR, entryOf s.cfg .i2w wrR]
      schedule := rest } := by
  have admitted := (identityReadAdmitsOnlyTheDeviceId s idR _ ⟨busy, free, start, hs⟩ okId).1 known
  have resetting := run_trans admitted (resetWriteEntersResetting _ wrR rest ⟨busy, rfl, rfl, rfl⟩ okWr)
  rw [entryOf_read (m := .i1) s.cfg rfl okId, entryOf_write (m := .i2w) s.cfg rfl okWr]
  simpa [MicroOp.request, MicroOp.kind, MicroOp.reg, MicroOp.wdata] using resetting

/-- The whole poll: reads that show the bit set, and the one that shows it clear (41_init R120, R121). -/
theorem run_wholePoll {s : State} {polls : List RspWord} {clearR : RspWord} {rest : List Event}
    (busy : s.busy = true) (free : s.inflight = false) (atPoll : s.pc = 2)
    (pending : ∀ p ∈ polls, ShowsResetPending s.cfg p) (done : ShowsResetDone s.cfg clearR)
    (room : ∀ n, s.cfg.pollLimit = some n → s.pollCount + polls.length < n)
    (hs : s.schedule = answering polls ++ (answering [clearR] ++ rest)) :
    run (2 * polls.length + 2) s = .next { s with
      inflight := false
      pc := 3
      pollCount := (pollCounted s.cfg)^[polls.length] s.pollCount
      trace := s.trace ++ polls.map (entryOf s.cfg .i2p) ++ [entryOf s.cfg .i2p clearR]
      schedule := rest } := by
  obtain ⟨ok, clear⟩ := done
  rw [entryOf_read (m := .i2p) s.cfg rfl ok]
  refine run_trans (run_polls busy free atPoll pending room hs)
    ((pollReadTestsTheResetBit _ clearR rest ?_ ok).1 ?_)
  · exact ⟨busy, free, atPoll, rfl⟩
  · exact clear

theorem initOps_succ (k : Nat) : initOps (k + 1) = [.i1, .i2w] ++ List.replicate k .i2p ++ .i2p :: afterPoll := by
  simp [initOps, afterPoll, List.replicate_succ']

/-- The transactions of a successful `INIT`, phase by phase. -/
theorem zipWith_initOps (f : MicroOp → RspWord → TraceEntry) (idR wrR clearR : RspWord) (polls tail : List RspWord) :
    List.zipWith f (initOps (polls.length + 1)) (idR :: wrR :: (polls ++ clearR :: tail)) =
      [f .i1 idR, f .i2w wrR] ++ polls.map (f .i2p) ++ [f .i2p clearR] ++ List.zipWith f afterPoll tail := by
  have polled : List.zipWith f (List.replicate polls.length .i2p) polls = polls.map (f .i2p) := by
    rw [← List.map_const', List.zipWith_map_left, List.zipWith_self]
  simp [initOps_succ, List.zipWith_append, polled]

/-- `INIT` from its first transaction to its last (41_init R116): identity and reset, the poll, and the rest. -/
theorem run_wholeInit {s : State} {idR wrR clearR : RspWord} {polls tail : List RspWord} {rest : List Event}
    (busy : s.busy = true) (free : s.inflight = false) (start : s.pc = 0)
    (room : ∀ n, s.cfg.pollLimit = some n → polls.length < n)
    (okId : rspErr idR = false) (known : rspByte idR = 0x1A) (okWr : rspErr wrR = false)
    (pending : ∀ p ∈ polls, ShowsResetPending s.cfg p) (done : ShowsResetDone s.cfg clearR)
    (twelve : tail.length = 12) (ok : ∀ r ∈ tail, rspErr r = false)
    (hs : s.schedule = answering (idR :: wrR :: (polls ++ clearR :: tail)) ++ rest) :
    run (2 * (15 + polls.length)) s = .next { s with
      busy := false
      done := true
      inflight := false
      pc := 14
      pollCount := (pollCounted s.cfg)^[polls.length] 0
      dstate := .active
      status := .ok
      diag := rspByte (tail.getD 9 0)
      trace := s.trace ++
        List.zipWith (entryOf s.cfg) (initOps (polls.length + 1)) (idR :: wrR :: (polls ++ clearR :: tail))
      schedule := rest } := by
  have phases : s.schedule =
      answering [idR, wrR] ++ (answering polls ++ (answering [clearR] ++ (answering tail ++ rest))) := by
    rw [hs, answering_cons, answering_cons, answering_append, answering_cons]
    simp [answering]
  have turns := run_trans (run_identityThenReset busy free start okId known okWr phases)
    (run_trans (run_wholePoll busy rfl rfl pending done (by simpa using room) rfl)
      (run_afterPoll busy rfl rfl twelve ok rfl))
  have steps : 2 * (15 + polls.length) = 4 + (2 * polls.length + 2 + 24) := by omega
  rw [steps, zipWith_initOps]
  simpa using turns

/-- Settles O30: the command is accepted, and its three phases run one after the other. -/
theorem initRunsItsWholeSequence : Obligations.InitRunsItsWholeSequence := by
  intro s g idR wrR clearR polls tail rest idle free room okId known okWr pending done twelve ok hs
  have accepted := run_command idle hs
  refine ⟨_, run_trans accepted (run_wholeInit rfl free rfl room okId known okWr pending done twelve ok rfl), ?_⟩
  simp +arith [State.ready, State.resultValid, initOps_succ, afterPoll, twelve]

end Sys2Proof.Safety

/-! # 42_transient_source: the micro-op of `RDTSRC`, and a whole `RDTSRC` -/

namespace Sys2Proof

theorem decodeResponse_err {r : RspWord} (err : rspErr r = true) (k : Kind) : decodeResponse k r = .err := by
  simp [decodeResponse, err]

end Sys2Proof

namespace Sys2Proof.Machine

theorem completeMicroOp_err {m : MicroOp} {r : RspWord} (err : rspErr r = true) (s : State) :
    completeMicroOp m r s = s.fail .transportError := by
  simp [completeMicroOp, err]

end Sys2Proof.Machine

namespace Sys2Proof.Safety

open Sys2Proof Sys2Proof.Machine

/-- The turn of any micro-op that is answered with an error (41_init R134, 60_exceptions R187). -/
theorem run_err {s : State} {m : MicroOp} {r : RspWord} {rest : List Event} (h : OnTurn s m.addr r rest)
    (err : rspErr r = true) :
    run 2 s = .next (State.fail { s with
      inflight := false
      trace := s.trace ++ [⟨m.request s.cfg, some .err⟩]
      schedule := rest } .transportError) := by
  rw [run_turn h, completeMicroOp_err err, decodeResponse_err err]

theorem entryOf_err {m : MicroOp} {r : RspWord} (c : Config) (err : rspErr r = true) :
    entryOf c m r = ⟨m.request c, some .err⟩ := by
  rw [entryOf, decodeResponse_err err]

/-- Settles O26: a success completes T1, which keeps the byte and finishes; an error is the common failure. -/
theorem transientReadKeepsTheRawByte : Obligations.TransientReadKeepsTheRawByte :=
  fun _ _ _ h => ⟨run_read (m := .t1) h rfl, run_err (m := .t1) h⟩

/-- The turn of T1, whatever the transport answers (42_transient_source R146). -/
theorem run_transientRead {s : State} {r : RspWord} {rest : List Event} (h : OnTurn s 15 r rest) :
    run 2 s = .next { s with
      busy := false
      done := true
      inflight := false
      dstate := if rspErr r then .uninitialized else s.dstate
      status := if rspErr r then .transportError else .ok
      resByte := if rspErr r then s.resByte else rspByte r
      trace := s.trace ++ [entryOf s.cfg .t1 r]
      schedule := rest } := by
  obtain ⟨onOk, onErr⟩ := transientReadKeepsTheRawByte s r rest h
  cases answer : rspErr r with
  | false =>
    rw [onOk answer, entryOf_read s.cfg rfl answer]
    rfl
  | true =>
    rw [onErr answer, entryOf_err s.cfg answer]
    rfl

/-- Settles O33: the command is accepted at T1, whose one turn ends it. -/
theorem rdtsrcRunsOneTransaction : Obligations.RdtsrcRunsOneTransaction := by
  intro s g r rest idle free hs
  have accepted := run_command idle hs
  have turn := run_transientRead (s := (s.withSchedule (.txnIssue :: .txnComplete r :: rest)).accept .rdtsrc g)
    ⟨rfl, free, rfl, rfl⟩
  simpa [State.accept, State.withSchedule, entry, idle, free] using run_trans accepted turn

end Sys2Proof.Safety

/-! # 43_acceleration: the micro-ops of `GETACC`, and a whole `GETACC` -/

namespace Sys2Proof

theorem decodeResponse_block {r : RspWord} (ok : rspErr r = false) :
    decodeResponse .rdblk r = .okBlock (rspSample r) := by
  simp [decodeResponse, ok]

end Sys2Proof

namespace Sys2Proof.Machine

/-- The sign rule on the unsigned value of the pair, in the document's integers (44_unpack_scale R161, R162). -/
theorem unpack14_eq (msb lsb : Byte) :
    unpack14 msb lsb =
      if 64 * msb.toNat + lsb.toNat / 4 > 8191 then ((64 * msb.toNat + lsb.toNat / 4 : Nat) : Int) - 16384
      else ((64 * msb.toNat + lsb.toNat / 4 : Nat) : Int) := by
  rw [unpack14, signed14, raw14_toNat]
  rfl

theorem axisResult_eq (msb lsb : Byte) (u : Bool) :
    axisResult msb lsb u = BitVec.ofInt 34 (unpack14 msb lsb * if u then 1 else 980655) := by
  rw [axisResult, numeratorOf, scale_eq]

/-! ## The two requests of `GETACC` (43_acceleration R151) -/

theorem request_a1 (c : Config) : MicroOp.request c .a1 = ⟨.wr, c.devAddr, c.regOutXMsb, 0⟩ := rfl

theorem request_a2 (c : Config) : MicroOp.request c .a2 = ⟨.rdblk, c.devAddr, c.regOutXMsb, 0⟩ := rfl

end Sys2Proof.Machine

namespace Sys2Proof.Safety

open Sys2Proof Sys2Proof.Machine

/-! ## A2, the block read -/

/-- The turn of A2 with a success, its numerators by the model's own lanes (43_acceleration R152). -/
theorem run_blockRead {s : State} {r : RspWord} {rest : List Event} (h : OnTurn s 17 r rest)
    (ok : rspErr r = false) :
    run 2 s = .next { s with
      sample := rspSample r
      resX := axisResult (rspSample r).b0 (rspSample r).b1 s.useG
      resY := axisResult (rspSample r).b2 (rspSample r).b3 s.useG
      resZ := axisResult (rspSample r).b4 (rspSample r).b5 s.useG
      unit := s.useG
      status := .ok
      busy := false
      done := true
      inflight := false
      trace := s.trace ++ [⟨⟨.rdblk, s.cfg.devAddr, s.cfg.regOutXMsb, 0⟩, some (.okBlock (rspSample r))⟩]
      schedule := rest } := by
  rw [run_turn (m := .a2) h, completeMicroOp_ok ok, request_a2, MicroOp.kind, decodeResponse_block ok]
  rfl

/-- Settles O27: each lane of A2 is the document's count of its pair times the document's factor of the unit. -/
theorem blockReadUnpacksAndScales : Obligations.BlockReadUnpacksAndScales := by
  intro s r rest h ok b count result
  have lane (msb lsb : Byte) : axisResult msb lsb s.useG = result msb lsb := by
    rw [axisResult_eq, unpack14_eq]
  simpa only [lane] using run_blockRead h ok

/-! ## A1, and a whole `GETACC` -/

/-- A `GETACC` whose latch write succeeds stands at A2 (43_acceleration R151). -/
theorem run_latch {s : State} {g : Bool} {rA : RspWord} {rest : List Event} (idle : s.busy = false)
    (free : s.inflight = false) (ok : rspErr rA = false)
    (hs : s.schedule = .issue (commandWord .getacc g) :: (answering [rA] ++ rest)) :
    run 3 s = .next { s with
      busy := true
      done := false
      inflight := false
      cmd := .getacc
      useG := g
      pc := 17
      pollCount := 0
      trace := s.trace ++ [⟨⟨.wr, s.cfg.devAddr, s.cfg.regOutXMsb, 0x00⟩, some .okWrite⟩]
      schedule := rest } :=
  run_trans (run_command idle hs)
    (writeFallsThrough_of_goto (m := .a1) 17 rfl (fun _ _ => rfl) _ rA rest ⟨rfl, free, rfl, rfl⟩ ok)

/-- Settles O35: the latch write leads to A2, and the block read ends the command. -/
theorem getaccRunsLatchThenBlockRead : Obligations.GetaccRunsLatchThenBlockRead := by
  intro s g rA rB rest idle free okA okB hs
  have latched := run_latch (rest := answering [rB] ++ rest) idle free okA hs
  have whole := run_trans latched (run_blockRead ⟨rfl, rfl, rfl, rfl⟩ okB)
  simpa [idle, free] using whole

/-- Settles O36: an error is the common failure, at A1 of the accepted command or at A2 after the latch write. -/
theorem failedGetaccKeepsTheOldReading : Obligations.FailedGetaccKeepsTheOldReading := by
  intro s g rA rB rest idle free failed
  constructor
  · intro errA hs
    have accepted := run_command idle hs
    have whole := run_trans accepted (run_err (m := .a1) ⟨rfl, free, rfl, rfl⟩ errA)
    simpa [failed, State.fail, State.accept, State.withSchedule, entry, request_a1, idle, free] using whole
  · intro okA errB hs
    have latched := run_latch (rest := answering [rB] ++ rest) idle free okA hs
    have whole := run_trans latched (run_err (m := .a2) ⟨rfl, rfl, rfl, rfl⟩ errB)
    simpa [failed, State.fail, request_a2, idle, free] using whole

end Sys2Proof.Safety

/-! # 44_unpack_scale: the unpacker's fourteen bits, and the value of a result -/

namespace Sys2Proof.Machine

/-! ## The unpacker -/

/-- The assembled bits are the high byte followed by the upper six bits of the low one (44_unpack_scale R161). -/
theorem raw14_eq_append (msb lsb : Byte) : raw14 msb lsb = msb ++ lsb.extractLsb' 2 6 := by
  have low : lsb.toNat / 4 < 64 := by have := lsb.isLt; omega
  apply BitVec.eq_of_toNat_eq
  rw [raw14_toNat, BitVec.toNat_append, BitVec.extractLsb'_toNat, Nat.shiftRight_eq_div_pow, Nat.mod_eq_of_lt low,
    ← Nat.shiftLeft_add_eq_or_of_lt low, Nat.shiftLeft_eq, Nat.mul_comm msb.toNat]

theorem raw14_msb (msb lsb : Byte) : (raw14 msb lsb).msb = msb.getLsbD 7 := by
  rw [raw14_eq_append, BitVec.msb_append]
  exact BitVec.msb_eq_getLsbD_last msb

/-- The sign rule "above 8191, less 16384" is the two's-complement reading of any fourteen bits
(44_unpack_scale R162). -/
theorem signed14_eq_toInt (raw : BitVec 14) : signed14 raw = raw.toInt := by
  have sameThreshold : raw.toNat > Config.half14 ↔ ¬ 2 * raw.toNat < 2 ^ 14 := by
    rw [Config.half14]
    omega
  simp only [signed14, BitVec.toInt_eq_toNat_cond, sameThreshold, ite_not]
  rfl

theorem unpack14_eq_toInt (msb lsb : Byte) : unpack14 msb lsb = (raw14 msb lsb).toInt :=
  signed14_eq_toInt _

/-- Bit 7 of the high byte is the sign (44_unpack_scale R162). -/
theorem unpack14_neg_iff (msb lsb : Byte) : unpack14 msb lsb < 0 ↔ msb.getLsbD 7 = true := by
  rw [unpack14_eq_toInt, ← raw14_msb msb lsb, BitVec.msb_eq_toInt, decide_eq_true_iff]

/-- Settles O54: the clauses on the bits follow from the concatenation, those on the result from the two's-complement
reading. -/
theorem unpackerReadsFourteenBits : Obligations.UnpackerReadsFourteenBits := by
  intro msb lsb
  have topBit : (raw14 msb lsb).getLsbD 13 = msb.getLsbD 7 :=
    (BitVec.msb_eq_getLsbD_last _).symm.trans (raw14_msb msb lsb)
  have reading := unpack14_eq_toInt msb lsb
  have low : -8192 ≤ (raw14 msb lsb).toInt := BitVec.le_toInt _
  have high : (raw14 msb lsb).toInt < 8192 := BitVec.toInt_lt
  exact ⟨raw14_eq_append msb lsb, raw14_toNat msb lsb, Nat.le_of_lt_succ (raw14 msb lsb).isLt, topBit, rfl, reading,
    by omega, by omega, unpack14_neg_iff msb lsb⟩

/-! ## The value of a result -/

/-- The register holds the product exactly, so its value is the exact quotient (44_unpack_scale R169, R170). -/
theorem resultValue_scale (s : Int) (u : Bool) (low : -8192 ≤ s) (high : s ≤ 8191) :
    resultValue (numeratorOf (scale s u)) u = (s : Rat) * (scaleFactor u : Rat) / (scaleDen u : Rat) := by
  rw [resultValue, numeratorOf_scale s u low high, scale]
  push_cast
  rfl

theorem resultValue_g {s : Int} (low : -8192 ≤ s) (high : s ≤ 8191) :
    resultValue (numeratorOf (scale s true)) true = (s : Rat) / 2048 := by
  rw [resultValue_scale s true low high]
  simp [scaleFactor, scaleDen, Config.countsPerG]

/-- "Multiply, keep the denominator" gives the document's "divide, then multiply" (44_unpack_scale R170). -/
theorem resultValue_si {s : Int} (low : -8192 ≤ s) (high : s ≤ 8191) :
    resultValue (numeratorOf (scale s false)) false = (s : Rat) / 2048 * (980655 / 100000) := by
  rw [resultValue_scale s false low high]
  simp only [scaleFactor, scaleDen, Config.gStdNum, Config.countsPerG, Config.gStdDen]
  push_cast
  ring

/-- Settles O58: both values are increasing in the count, so the ranges are those of the ends of the count's range. -/
theorem resultValueIsTheExactRational : Obligations.ResultValueIsTheExactRational := by
  intro s low high
  have lowRat : (-8192 : Rat) ≤ s := by exact_mod_cast low
  have highRat : (s : Rat) ≤ 8191 := by exact_mod_cast high
  rw [resultValue_g low high, resultValue_si low high]
  refine ⟨rfl, rfl, ?_, ?_, ?_, ?_⟩ <;> linarith

end Sys2Proof.Machine

/-! # 45_orientation: the micro-op of `GETORI`, and a whole `GETORI` -/

namespace Sys2Proof.Machine

/-- `M_ORIENT` keeps the low three bits, and no other (45_orientation R181). -/
theorem orientationCode_eq (b : Byte) : orientationCode b = (b.extractLsb' 0 3).setWidth 8 := by
  apply BitVec.eq_of_toNat_eq
  rw [orientationCode, BitVec.toNat_and, BitVec.toNat_setWidth_of_le (by decide), BitVec.extractLsb'_toNat,
    Nat.shiftRight_zero]
  exact Nat.and_two_pow_sub_one_eq_mod b.toNat 3

end Sys2Proof.Machine

namespace Sys2Proof.Safety

open Sys2Proof Sys2Proof.Machine

/-- Settles O28: a success completes O1, whose mask is the low three bits; an error is the common failure. -/
theorem orientationReadKeepsThreeBits : Obligations.OrientationReadKeepsThreeBits := by
  intro s r rest h
  refine ⟨fun ok => ?_, run_err (m := .o1) h⟩
  rw [← orientationCode_eq]
  exact run_read (m := .o1) h rfl ok

/-- Settles O34: the command is accepted at O1, and either answer to its one transaction ends it. -/
theorem getoriRunsOneTransaction : Obligations.GetoriRunsOneTransaction := by
  intro s g r rest idle free hs
  have accepted := run_command idle hs
  cases answer : rspErr r with
  | false =>
    have whole := run_trans accepted (run_succeed (m := .o1) ⟨rfl, free, rfl, rfl⟩ answer)
    simpa [succeed, completeOk, completeO1, orientationCode, Config.mOrient, State.finish, State.accept,
      State.withSchedule, entry, idle, free] using whole
  | true =>
    have whole := run_trans accepted (run_err (m := .o1) ⟨rfl, free, rfl, rfl⟩ answer)
    simpa [State.fail, State.accept, State.withSchedule, entry, entryOf_err s.cfg answer, idle, free] using whole

end Sys2Proof.Safety

/-! # 60_exceptions: the transport error -/

namespace Sys2Proof.Safety

open Sys2Proof Sys2Proof.Machine

/-- Settles O29: on an error every micro-op's turn ends in the one failure action, and its request is its ROM row to
`DEV_ADDR` (60_exceptions R187, R190). -/
theorem transportErrorFailsEveryMicroOp : Obligations.TransportErrorFailsEveryMicroOp :=
  fun _ _ _ _ turn err => run_err turn err

end Sys2Proof.Safety

/-! # 30_encoding: decoding and encoding agree, and response words are typed -/

namespace Sys2Proof

open Sys2Proof.Machine Sys2Proof.Safety

/-! ## Instructions and their words -/

/-- Settles O1: a command's word holds its opcode and operand, a request's word its four fields. -/
theorem decodeOfEncodeIsTheInstruction : Obligations.DecodeOfEncodeIsTheInstruction := by
  intro i
  cases i with
  | init g => exact congrArg Except.ok (decodeCommand_commandWord .init g)
  | rdtsrc g => exact congrArg Except.ok (decodeCommand_commandWord .rdtsrc g)
  | getacc g => exact congrArg Except.ok (decodeCommand_commandWord .getacc g)
  | getori g => exact congrArg Except.ok (decodeCommand_commandWord .getori g)
  | rd dev reg => exact decodeRequest_word ⟨.rd, dev, reg, 0⟩ (.inr rfl)
  | wr dev reg wdata => exact decodeRequest_word ⟨.wr, dev, reg, wdata⟩ (.inl rfl)
  | rdblk dev reg => exact decodeRequest_word ⟨.rdblk, dev, reg, 0⟩ (.inr rfl)

theorem encode_instr (c : Cmd) (g : Bool) : encode (c.instr g) = .cmd (commandWord c g) := by
  cases c <;> rfl

/-- A command word is its operand bit and the code of its opcode (30_encoding R80). -/
theorem commandWord_fields (w : CmdWord) : commandWord (Cmd.ofCode (w.extractLsb' 0 2)) (w.getLsbD 2) = w := by
  revert w
  decide

/-- A request word is its four fields from the top (30_encoding R84). -/
theorem requestWord_fields (q : ReqWord) :
    q.extractLsb' 23 2 ++ q.extractLsb' 16 7 ++ q.extractLsb' 8 8 ++ q.extractLsb' 0 8 = q := by
  rw [BitVec.extractLsb'_append_extractLsb'_eq_extractLsb' (by rfl),
    BitVec.extractLsb'_append_extractLsb'_eq_extractLsb' (by rfl),
    BitVec.extractLsb'_append_extractLsb'_eq_extractLsb' (by rfl)]
  simp

/-- The word of a request whose fields are those of `q` is `q`. -/
theorem Request.word_eq {q : ReqWord} {k : Kind} {wdata : Byte} (kind : q.extractLsb' 23 2 = k.code)
    (data : q.extractLsb' 0 8 = wdata) :
    Request.word ⟨k, q.extractLsb' 16 7, q.extractLsb' 8 8, wdata⟩ = q := by
  rw [Request.word, ← kind, ← data]
  exact requestWord_fields q

/-- What the request decoder answers, by the kind's code and the data field (30_encoding R84). -/
theorem decodeRequest_cases (q : ReqWord) :
    (q.extractLsb' 23 2 = 1 ∧
      decodeRequest q = .ok (.wr (q.extractLsb' 16 7) (q.extractLsb' 8 8) (q.extractLsb' 0 8))) ∨
    (q.extractLsb' 23 2 = 3 ∧ decodeRequest q = .error .reservedKind) ∨
    ((q.extractLsb' 23 2 = 0 ∨ q.extractLsb' 23 2 = 2) ∧ q.extractLsb' 0 8 ≠ 0 ∧
      decodeRequest q = .error .readWithData) ∨
    (q.extractLsb' 23 2 = 0 ∧ q.extractLsb' 0 8 = 0 ∧
      decodeRequest q = .ok (.rd (q.extractLsb' 16 7) (q.extractLsb' 8 8))) ∨
    (q.extractLsb' 23 2 = 2 ∧ q.extractLsb' 0 8 = 0 ∧
      decodeRequest q = .ok (.rdblk (q.extractLsb' 16 7) (q.extractLsb' 8 8))) := by
  have codes (k : BitVec 2) : k = 0 ∨ k = 1 ∨ k = 2 ∨ k = 3 := by revert k; decide
  by_cases data : q.extractLsb' 0 8 = 0 <;>
    obtain kind | kind | kind | kind := codes (q.extractLsb' 23 2) <;>
    simp_all [decodeRequest]

/-- Settles O2: an accepted word is put together again from the fields its meaning holds. -/
theorem encodeOfDecodeIsTheWord : Obligations.EncodeOfDecodeIsTheWord := by
  intro p i h
  cases p with
  | cmd w =>
    obtain rfl : decodeCommand w = i := Except.ok.inj h
    rw [decodeCommand, encode_instr, commandWord_fields]
  | txn q =>
    obtain ⟨kind, is⟩ | ⟨-, is⟩ | ⟨-, -, is⟩ | ⟨kind, data, is⟩ | ⟨kind, data, is⟩ := decodeRequest_cases q
    · obtain rfl := Except.ok.inj (is.symm.trans h)
      exact congrArg PortWord.txn (Request.word_eq kind rfl)
    · cases is.symm.trans h
    · cases is.symm.trans h
    · obtain rfl := Except.ok.inj (is.symm.trans h)
      exact congrArg PortWord.txn (Request.word_eq kind data)
    · obtain rfl := Except.ok.inj (is.symm.trans h)
      exact congrArg PortWord.txn (Request.word_eq kind data)

/-- Settles O3: the five answers of the request decoder exclude each other. -/
theorem reservedRequestWordsAreRejected : Obligations.ReservedRequestWordsAreRejected := by
  intro q
  obtain ⟨kind, is⟩ | ⟨kind, is⟩ | ⟨kind | kind, data, is⟩ | ⟨kind, data, is⟩ | ⟨kind, data, is⟩ :=
    decodeRequest_cases q <;> simp_all

/-- Settles O4: each word is the number of its port, and its fields are read off. -/
theorem wordsOfTheSpecDecode : Obligations.WordsOfTheSpecDecode :=
  ⟨rfl, rfl, rfl, rfl, rfl, rfl, rfl, rfl⟩

/-! ## Response words -/

/-- Every response word is read as a response of the type its request calls for (30_encoding R85). -/
theorem decodeResponse_fits (k : Kind) (r : RspWord) : (decodeResponse k r).fits k = true := by
  unfold decodeResponse
  split
  · rfl
  · cases k <;> rfl

theorem decodeResponse_okByte_word (b : Byte) : decodeResponse .rd (Response.okByte b).word = .okByte b := by
  have noErr : rspErr (Response.okByte b).word = false := by
    simp only [rspErr, Response.word, BitVec.getLsbD_append]
    simp
  have byte : rspByte (Response.okByte b).word = b := by
    rw [rspByte, Response.word, BitVec.extractLsb'_append_eq_of_le (by omega),
      BitVec.extractLsb'_append_eq_of_add_le (by omega)]
    simp
  rw [decodeResponse_read noErr, byte]

theorem decodeResponse_okBlock_word (s : Sample) : decodeResponse .rdblk (Response.okBlock s).word = .okBlock s := by
  have noErr : rspErr (Response.okBlock s).word = false := by
    simp only [rspErr, Response.word, BitVec.getLsbD_append]
    simp
  have sample : rspSample (Response.okBlock s).word = s := by
    obtain ⟨b0, b1, b2, b3, b4, b5⟩ := s
    simp only [rspSample, Response.word, Sample.mk.injEq]
    refine ⟨?_, ?_, ?_, ?_, ?_, ?_⟩ <;>
      (repeat rw [BitVec.extractLsb'_append_eq_of_le (by omega)]) <;>
      rw [BitVec.extractLsb'_append_eq_of_add_le (by omega), BitVec.extractLsb'_eq_self]
  rw [decodeResponse_block noErr, sample]

/-- Settles O6: a word's type is its request's, and each response that fits is read back from its packed form. -/
theorem responseWordsDecodeTyped : Obligations.ResponseWordsDecodeTyped := by
  intro k
  refine ⟨decodeResponse_fits k, fun rsp fits => ?_⟩
  cases rsp with
  | err => rfl
  | okByte b =>
    obtain rfl : k = .rd := by simpa [Response.fits] using fits
    exact decodeResponse_okByte_word b
  | okWrite =>
    obtain rfl : k = .wr := by simpa [Response.fits] using fits
    rfl
  | okBlock s =>
    obtain rfl : k = .rdblk := by simpa [Response.fits] using fits
    exact decodeResponse_okBlock_word s

theorem decodeResponse_eq_err {k : Kind} {r : RspWord} : decodeResponse k r = .err ↔ rspErr r = true := by
  cases h : rspErr r <;> cases k <;> simp [decodeResponse, h]

/-- A completion reads nothing of a word but the response it carries. -/
theorem completeMicroOp_congr {m : MicroOp} {r r' : RspWord} (same : decodeResponse m.kind r = decodeResponse m.kind r')
    (s : State) : completeMicroOp m r s = completeMicroOp m r' s := by
  have errs : rspErr r = rspErr r' := by
    rw [Bool.eq_iff_iff, ← decodeResponse_eq_err (k := m.kind), same, decodeResponse_eq_err]
  cases answer : rspErr r' with
  | true => rw [completeMicroOp_err (errs.trans answer), completeMicroOp_err answer]
  | false =>
    have ok := errs.trans answer
    rw [completeMicroOp_ok ok, completeMicroOp_ok answer]
    cases m <;> simp_all [decodeResponse, MicroOp.kind, completeOk]

/-- Settles O7: the recorded response and the completion action are those of the response the word carries. -/
theorem ignoredResponseBitsHaveNoEffect : Obligations.IgnoredResponseBitsHaveNoEffect := by
  intro s m r r' atOp same
  have carried : decodeResponse m.kind r = decodeResponse m.kind r' := by
    obtain ⟨err, err'⟩ | ⟨ok, ok', writes | ⟨reads, byte⟩⟩ := same
    · rw [decodeResponse_err err, decodeResponse_err err']
    · rw [writes, decodeResponse_write ok, decodeResponse_write ok']
    · rw [reads, decodeResponse_read ok, decodeResponse_read ok', rspByte, byte, rspByte]
  cases waits : s.inflight with
  | false => rw [txnComplete_drop r waits, txnComplete_drop r' waits]
  | true =>
    rw [txnComplete_answer r waits atOp, txnComplete_answer r' waits atOp, carried, completeMicroOp_congr carried]

end Sys2Proof

/-! # 10_state: what one completion can do, and what every step keeps -/

namespace Sys2Proof.Machine

open Sys2Proof.Safety

/-! ## The cases of a completion -/

/-- The driver state after a success at which the command goes on (41_init R119, R130, R132). -/
def dstateAfter : MicroOp → DState → DState
  | .i2w, _ => .resetting
  | .i11, _ => .configured
  | .i13, _ => .active
  | _, d => d

/-- The poll counter after a success at which the command goes on to another micro-op (41_init R119). -/
def pollCountAfter : MicroOp → Nat → Nat
  | .i2w, _ => 0
  | _, count => count

/-- A micro-op whose success ends its command (60_exceptions R189). -/
def isFinal (m : MicroOp) : Bool :=
  m = .i14 || m = .t1 || m = .a2 || m = .o1

/-- What completing a micro-op with a response word can do: the command fails, finishes (`p` is the state with the
result stored), polls again, or goes on at the next place. The first two end the command. -/
inductive Completion (m : MicroOp) (r : RspWord) (s : State) : State → Prop
  | failed (c : Status) : c ≠ .ok → Ends s.cfg m (decodeResponse m.kind r) → Completion m r s (s.fail c)
  | finished (p : State) : isFinal m = true → rspErr r = false →
      p = { s with sample := p.sample, resByte := p.resByte, resX := p.resX, resY := p.resY, resZ := p.resZ,
                   unit := p.unit } →
      (p.resByte ≠ s.resByte → m = .t1 ∨ m = .o1) →
      (m ≠ .a2 → p.sample = s.sample ∧ p.resX = s.resX ∧ p.resY = s.resY ∧ p.resZ = s.resZ ∧ p.unit = s.unit) →
      Completion m r s p.finish
  | polledAgain : m = .i2p → GoesOn s.cfg m (decodeResponse m.kind r) .i2p →
      pollLimitReached s.cfg s.pollCount = false →
      Completion m r s { s with pollCount := pollCounted s.cfg s.pollCount, pc := MicroOp.i2p.addr }
  | wentOn (m' : MicroOp) (d : Byte) : rspErr r = false → GoesOn s.cfg m (decodeResponse m.kind r) m' →
      m'.addr.toNat = m.addr.toNat + 1 → (d ≠ s.diag → m = .i12) →
      Completion m r s { s with
        dstate := dstateAfter m s.dstate, pollCount := pollCountAfter m s.pollCount, diag := d, pc := m'.addr }

/-- The completion of a write that goes on stores nothing in `diag`. -/
theorem Completion.of_write {m : MicroOp} {r : RspWord} {s : State} (m' : MicroOp) (ok : rspErr r = false)
    (writes : m.kind = .wr) (next : GoesOn s.cfg m .okWrite m') (place : m'.addr.toNat = m.addr.toNat + 1) :
    Completion m r s { s with
      dstate := dstateAfter m s.dstate, pollCount := pollCountAfter m s.pollCount, diag := s.diag, pc := m'.addr } :=
  .wentOn m' s.diag ok (by rwa [writes, decodeResponse_write ok]) place fun h => absurd rfl h

theorem completion_i1 {r : RspWord} (ok : rspErr r = false) (s : State) :
    Completion .i1 r s (completeI1 (rspByte r) s) := by
  have answer : decodeResponse MicroOp.i1.kind r = .okByte (rspByte r) := decodeResponse_read ok
  by_cases known : rspByte r = 0x1A
  · rw [completeI1_match known]
    exact .wentOn .i2w s.diag ok (by rw [answer]; exact ⟨known, rfl⟩) rfl fun h => absurd rfl h
  · rw [completeI1_mismatch known]
    exact .failed _ (by decide) (by rw [answer]; exact .inr (.inl ⟨rfl, _, rfl, known⟩))

theorem goesOn_i2p {c : Config} {b : Byte} {m' : MicroOp} :
    GoesOn c .i2p (.okByte b) m' ↔ if b &&& c.bReset = 0 then m' = .i3 else m' = .i2p := Iff.rfl

theorem completion_i2p {r : RspWord} (ok : rspErr r = false) (s : State) :
    Completion .i2p r s (completeI2P (rspByte r) s) := by
  have answer : decodeResponse MicroOp.i2p.kind r = .okByte (rspByte r) := decodeResponse_read ok
  by_cases clear : rspByte r &&& s.cfg.bReset = 0
  · rw [completeI2P_clear clear]
    exact .wentOn .i3 s.diag ok (by rw [answer, goesOn_i2p, if_pos clear]) rfl fun h => absurd rfl h
  · have set := resetBitClear_eq_true.not.mpr clear
    cases last : pollLimitReached s.cfg s.pollCount with
    | true =>
      have limited : s.cfg.pollLimit ≠ none := fun none => by simp [pollLimitReached, none] at last
      rw [completeI2P, if_neg set, if_pos last]
      exact .failed _ (by decide) (by rw [answer]; exact .inr (.inr (.inl ⟨rfl, limited, _, rfl, clear⟩)))
    | false =>
      rw [completeI2P, if_neg set, last]
      exact .polledAgain rfl (by rw [answer, goesOn_i2p, if_neg clear]) last

/-- Every completion is one of the cases (10_state R44). -/
theorem completion (m : MicroOp) (r : RspWord) (s : State) : Completion m r s (completeMicroOp m r s) := by
  cases answer : rspErr r with
  | true =>
    rw [completeMicroOp_err answer]
    exact .failed _ (by decide) (.inl (decodeResponse_err answer _))
  | false =>
    rw [completeMicroOp_ok answer]
    cases m with
    | i1 => exact completion_i1 answer s
    | i2p => exact completion_i2p answer s
    | i12 => exact .wentOn .i13 (rspByte r) answer (by simp [MicroOp.kind, decodeResponse_read answer, GoesOn]) rfl
                fun _ => rfl
    | i14 => exact .finished s rfl answer rfl (fun h => absurd rfl h) fun _ => ⟨rfl, rfl, rfl, rfl, rfl⟩
    | t1 => exact .finished { s with resByte := rspByte r } rfl answer rfl (fun _ => .inl rfl)
                fun _ => ⟨rfl, rfl, rfl, rfl, rfl⟩
    | o1 => exact .finished { s with resByte := orientationCode (rspByte r) } rfl answer rfl (fun _ => .inr rfl)
                fun _ => ⟨rfl, rfl, rfl, rfl, rfl⟩
    | a2 => exact .finished { s with
                sample := rspSample r
                resX := axisResult (rspSample r).b0 (rspSample r).b1 s.useG
                resY := axisResult (rspSample r).b2 (rspSample r).b3 s.useG
                resZ := axisResult (rspSample r).b4 (rspSample r).b5 s.useG
                unit := s.useG } rfl answer rfl (fun h => absurd rfl h) (fun h => absurd rfl h)
    | i2w => exact .of_write .i2p answer rfl rfl rfl
    | i3 => exact .of_write .i4 answer rfl rfl rfl
    | i4 => exact .of_write .i5 answer rfl rfl rfl
    | i5 => exact .of_write .i6 answer rfl rfl rfl
    | i6 => exact .of_write .i7 answer rfl rfl rfl
    | i7 => exact .of_write .i8 answer rfl rfl rfl
    | i8 => exact .of_write .i9 answer rfl rfl rfl
    | i9 => exact .of_write .i10 answer rfl rfl rfl
    | i10 => exact .of_write .i11 answer rfl rfl rfl
    | i11 => exact .of_write .i12 answer rfl rfl rfl
    | i13 => exact .of_write .i14 answer rfl rfl rfl
    | a1 => exact .of_write .a2 answer rfl rfl rfl

theorem ends_of_isFinal {m : MicroOp} (final : isFinal m = true) (c : Config) (r : Response) : Ends c m r := by
  have last : m = .i14 ∨ m = .t1 ∨ m = .a2 ∨ m = .o1 := by simpa [isFinal, or_assoc] using final
  exact .inr (.inr (.inr last))

/-! ## Places of a command -/

/-- The micro-op at which a command ends if nothing fails (30_encoding R87). -/
def lastOp : Cmd → MicroOp
  | .init => .i14
  | .rdtsrc => .t1
  | .getacc => .a2
  | .getori => .o1

theorem eq_lastOp {m : MicroOp} {cmd : Cmd} (atEnd : m.addr = lastOf cmd) : m = lastOp cmd := by
  have same : some m = some (lastOp cmd) := by
    rw [← microOpAt_addr m, atEnd]
    cases cmd <;> rfl
  exact Option.some.inj same

theorem not_isFinal_of_goesOn {c : Config} {m m' : MicroOp} {r : Response} (next : GoesOn c m r m') :
    isFinal m = false := by
  cases m with
  | i14 | t1 | a2 | o1 => cases r <;> exact next.elim
  | _ => rfl

/-- A command that goes on at the next place stays inside its own micro-program (30_encoding R87). -/
theorem inProgram_next {c : Config} {m m' : MicroOp} {r : Response} {cmd : Cmd} (next : GoesOn c m r m')
    (place : m'.addr.toNat = m.addr.toNat + 1) (inside : inProgram cmd m.addr = true) :
    inProgram cmd m'.addr = true := by
  have notLast : m.addr.toNat ≠ (lastOf cmd).toNat := by
    intro atEnd
    obtain rfl := eq_lastOp (BitVec.eq_of_toNat_eq atEnd)
    cases cmd <;> exact absurd (not_isFinal_of_goesOn next) (by decide)
  simp only [inProgram, Bool.and_eq_true, decide_eq_true_eq] at inside ⊢
  omega

theorem inProgram_entry (c : Cmd) : inProgram c (entry c) = true := by
  cases c <;> rfl

theorem addr_le (m : MicroOp) : m.addr.toNat ≤ 18 := by
  cases m <;> decide

/-- The micro-op at which a command starts. -/
def entryOp : Cmd → MicroOp
  | .init => .i1
  | .rdtsrc => .t1
  | .getacc => .a1
  | .getori => .o1

theorem addr_entryOp (c : Cmd) : (entryOp c).addr = entry c := by
  cases c <;> rfl

theorem entry_le (c : Cmd) : (entry c).toNat ≤ 18 :=
  addr_entryOp c ▸ addr_le (entryOp c)

theorem isEntry_entryOp (c : Cmd) : isEntry (entryOp c) = true := by
  cases c <;> rfl

/-! ## One induction step for every invariant -/

/-- What every performed event brings about, from a fact that does not look at what is to come, every step brings
about. -/
theorem step_induction {before after : State → Prop} {s t : State}
    (blind : ∀ (s : State) (es : List Event) (th : Thereafter),
      before s → before { s with schedule := es, thereafter := th })
    (stays : ∀ s, before s → after s)
    (performs : ∀ s e t, before s → Performed s e t → after t)
    (holds : before s) (h : step s = .next t) : after t := by
  obtain ⟨-, rfl⟩ | ⟨e, u, -, taken, performed⟩ := step_next h
  · exact stays t holds
  · exact performs u e t (taken ▸ blind s u.schedule u.thereafter holds) performed

/-! ## The control invariant (10_state R37) -/

theorem pollCounted_le {c : Config} {count n : Nat} (limit : c.pollLimit = some n)
    (room : pollLimitReached c count = false) : pollCounted c count ≤ n - 1 := by
  have below := pollLimitReached_eq_false.mp room n limit
  rw [pollCounted_of_some limit]
  omega

theorem pollCountAfter_le (m : MicroOp) (count : Nat) : pollCountAfter m count ≤ count := by
  unfold pollCountAfter
  split
  · exact Nat.zero_le count
  · exact Nat.le_refl count

/-- A completion keeps the control invariant: it clears `inflight`, and goes on only inside the program. -/
theorem Completion.controlInv {m : MicroOp} {r : RspWord} {s t : State} (done : Completion m r s t)
    (atOp : s.pc = m.addr) (free : s.inflight = false) (inv : ControlInv s) : ControlInv t := by
  obtain ⟨excl, -, inside, place, count⟩ := inv
  cases done with
  | failed c => exact ⟨nofun, by simp [free], nofun, place, count⟩
  | finished p _ _ same =>
    rw [same]
    exact ⟨nofun, by simp [free], nofun, place, count⟩
  | polledAgain here _ room =>
    obtain rfl := here
    exact ⟨excl, by simp [free], fun busy => atOp ▸ inside busy, addr_le _, fun n limit => pollCounted_le limit room⟩
  | wentOn m' d _ next later =>
    exact ⟨excl, by simp [free], fun busy => inProgram_next next later (atOp ▸ inside busy), addr_le m',
      fun n limit => (pollCountAfter_le m _).trans (count n limit)⟩

theorem controlInv_answered {s : State} (inv : ControlInv s) (rsp : Response) : ControlInv (s.answered rsp) := by
  obtain ⟨excl, -, inside, place, count⟩ := inv
  exact ⟨excl, nofun, inside, place, count⟩

theorem Performed.controlInv {s t : State} {e : Event} (h : Performed s e t) (inv : ControlInv s) : ControlInv t := by
  have ⟨excl, waits, inside, place, count⟩ := inv
  cases h with
  | reset => exact ⟨nofun, nofun, nofun, Nat.zero_le _, fun _ _ => Nat.zero_le _⟩
  | accepted w idle =>
    exact ⟨fun _ => rfl, fun _ => rfl, fun _ => inProgram_entry _, entry_le _,
      fun _ _ => Nat.zero_le _⟩
  | sent m free => exact ⟨excl, fun _ => (canIssueTxn_eq_true.mp free).1, inside, place, count⟩
  | completed m r _ atOp =>
    exact (completion m r _).controlInv (microOpAt_eq_some.mp atOp) rfl (controlInv_answered inv _)
  | turnedAway | passed | unsolicited => exact inv

/-- Settles O42: each case of a performed event keeps the five clauses. -/
theorem everyStepKeepsTheControlInvariant : Obligations.EveryStepKeepsTheControlInvariant := by
  intro s t inv h
  exact step_induction (after := ControlInv) (fun _ _ _ => id) (fun _ => id) (fun _ _ _ inv p => p.controlInv inv) inv h

/-! ## The trace invariant (40_transport R104, R105, R108) -/

theorem traceInv_free (s : State) (free : s.inflight = false) :
    TraceInv s ↔ ∀ e ∈ s.trace, ∃ (m : MicroOp) (r : Response),
      e.req = m.request s.cfg ∧ e.resp = some r ∧ r.fits m.kind = true := by
  simp [TraceInv, free]

/-- The answer to the transaction in flight completes its entry (10_state R44). -/
theorem traceInv_answered {s : State} {m : MicroOp} (inv : TraceInv s) (waits : s.inflight = true)
    (atOp : microOpAt s.pc = some m) (r : RspWord) : TraceInv (s.answered (decodeResponse m.kind r)) := by
  obtain ⟨past, typed, shape⟩ := inv
  rw [waits, if_pos rfl] at shape
  obtain ⟨m₁, same, trace⟩ := shape
  obtain rfl : m = m₁ := Option.some.inj (atOp.symm.trans same)
  rw [traceInv_free _ (State.answered_inflight s _), State.answered_trace, trace, recordResponse_append]
  intro e he
  obtain old | new := List.mem_append.mp he
  · exact typed e old
  · obtain rfl := List.mem_singleton.mp new
    exact ⟨m, _, rfl, rfl, decodeResponse_fits m.kind r⟩

theorem traceInv_completed {s : State} (inv : TraceInv s) (free : s.inflight = false) (m : MicroOp) (r : RspWord) :
    TraceInv (completeMicroOp m r s) := by
  rw [traceInv_free _ (by simp [free])]
  simpa using (traceInv_free s free).mp inv

theorem Performed.traceInv {s t : State} {e : Event} (h : Performed s e t) (control : ControlInv s)
    (inv : TraceInv s) : TraceInv t := by
  have ⟨_, waits, _⟩ := control
  cases h with
  | reset => exact (traceInv_free _ rfl).mpr (List.forall_mem_nil _)
  | accepted w idle =>
    have free : s.inflight = false := by simpa [idle] using waits
    exact (traceInv_free (s.accept _ _) free).mpr ((traceInv_free s free).mp inv)
  | sent m free atOp => exact ⟨s.trace, (traceInv_free s (canIssueTxn_eq_true.mp free).2).mp inv, m, atOp, rfl⟩
  | completed m r waits atOp => exact traceInv_completed (traceInv_answered inv waits atOp r) rfl m r
  | turnedAway | passed | unsolicited => exact inv

/-- Settles O43: sending adds the micro-op at `pc`, answering completes it with a response of its type, and nothing else
touches the trace but a reset. -/
theorem everyStepKeepsTheTraceInvariant : Obligations.EveryStepKeepsTheTraceInvariant := by
  intro s t control trace h
  exact step_induction (before := fun s => ControlInv s ∧ TraceInv s) (fun _ _ _ => id) (fun _ inv => inv.2)
    (fun _ _ _ inv p => p.traceInv inv.1 inv.2) ⟨control, trace⟩ h

/-! ## The legal order (20_memory R71) -/

theorem legalOrder_concat {c : Config} {ps : List (MicroOp × Option Response)} {m : MicroOp} {r : Option Response} :
    LegalOrder c (ps ++ [(m, r)]) ↔ LegalOrder c ps ∧ MayExtend c ps m := by
  refine ⟨fun legal => ?_, fun ⟨legal, may⟩ => .snoc ps m r legal may⟩
  generalize whole : ps ++ [(m, r)] = l at legal
  cases legal with
  | nil => simp at whole
  | snoc qs m' r' legal may =>
    obtain ⟨rfl, last⟩ := List.append_inj' whole rfl
    obtain ⟨rfl, -⟩ := Prod.mk.inj (List.singleton_inj.mp last)
    exact ⟨legal, may⟩

theorem mayExtend_concat {c : Config} {ps : List (MicroOp × Option Response)} {p : MicroOp × Option Response}
    {m : MicroOp} : MayExtend c (ps ++ [p]) m ↔ MayFollow c p m := by
  simp [MayExtend]

/-- After a list of transactions that ends with an ended command, any command may start. -/
theorem mayExtend_entry {c : Config} {ps : List (MicroOp × Option Response)} {m : MicroOp} (start : isEntry m = true)
    (ended : ∀ p, ps.getLast? = some p → ∃ r, p.2 = some r ∧ Ends c p.1 r) : MayExtend c ps m := by
  unfold MayExtend
  split
  · exact start
  · next p last =>
    obtain ⟨r, answered, ends⟩ := ended p last
    exact ⟨r, answered, .inr ⟨ends, start⟩⟩

/-- The order invariant with nothing in flight, by whether a command is. -/
theorem orderInv_busy (s : State) (busy : s.busy = true) (free : s.inflight = false) :
    OrderInv s ↔ ∃ ps, s.trace = ps.map (labelled s.cfg) ∧ LegalOrder s.cfg ps ∧
      ∃ m, microOpAt s.pc = some m ∧ MayExtend s.cfg ps m := by
  simp [OrderInv, busy, free]

theorem orderInv_idle (s : State) (idle : s.busy = false) (free : s.inflight = false) :
    OrderInv s ↔ ∃ ps, s.trace = ps.map (labelled s.cfg) ∧ LegalOrder s.cfg ps ∧
      ∀ p, ps.getLast? = some p → ∃ r, p.2 = some r ∧ Ends s.cfg p.1 r := by
  simp [OrderInv, idle, free]

/-- The trace after an answer: a legal order whose last transaction is the answered one. -/
theorem orderInv_answered {s : State} {m : MicroOp} (inv : OrderInv s) (waits : s.inflight = true)
    (atOp : microOpAt s.pc = some m) (rsp : Response) :
    ∃ ps, (s.answered rsp).trace = (ps ++ [(m, some rsp)]).map (labelled s.cfg) ∧
      LegalOrder s.cfg (ps ++ [(m, some rsp)]) := by
  obtain ⟨all, trace, legal, stands⟩ := inv
  rw [waits, if_pos rfl] at stands
  obtain ⟨m₁, same, last⟩ := stands
  obtain rfl : m = m₁ := Option.some.inj (atOp.symm.trans same)
  obtain ⟨ps, rfl⟩ := List.getLast?_eq_some_iff.mp last
  refine ⟨ps, ?_, legalOrder_concat.mpr (legalOrder_concat.mp legal)⟩
  rw [State.answered_trace, trace, List.map_append, List.map_append]
  exact recordResponse_append rsp _ _

/-- A completion leaves the block where the order has brought it. -/
theorem Completion.orderInv {m : MicroOp} {r : RspWord} {s t : State} (done : Completion m r s t)
    (busy : s.busy = true) (free : s.inflight = false) {ps : List (MicroOp × Option Response)}
    (trace : s.trace = (ps ++ [(m, some (decodeResponse m.kind r))]).map (labelled s.cfg))
    (legal : LegalOrder s.cfg (ps ++ [(m, some (decodeResponse m.kind r))])) : OrderInv t := by
  have ended (ends : Ends s.cfg m (decodeResponse m.kind r)) (p : MicroOp × Option Response)
      (last : (ps ++ [(m, some (decodeResponse m.kind r))]).getLast? = some p) :
      ∃ r, p.2 = some r ∧ Ends s.cfg p.1 r := by
    obtain rfl : (m, some (decodeResponse m.kind r)) = p := by simpa using last
    exact ⟨_, rfl, ends⟩
  have follows {m' : MicroOp} (next : GoesOn s.cfg m (decodeResponse m.kind r) m') :
      MayExtend s.cfg (ps ++ [(m, some (decodeResponse m.kind r))]) m' :=
    mayExtend_concat.mpr ⟨_, rfl, .inl next⟩
  cases done with
  | failed c _ ends => exact (orderInv_idle (s.fail c) rfl free).mpr ⟨_, trace, legal, ended ends⟩
  | finished p final _ same =>
    rw [same]
    exact (orderInv_idle (State.finish _) rfl free).mpr ⟨_, trace, legal, ended (ends_of_isFinal final _ _)⟩
  | polledAgain _ next =>
    refine (orderInv_busy _ ?_ ?_).mpr ⟨_, trace, legal, .i2p, microOpAt_addr .i2p, follows next⟩
    exacts [busy, free]
  | wentOn m' _ _ next =>
    refine (orderInv_busy _ ?_ ?_).mpr ⟨_, trace, legal, m', microOpAt_addr m', follows next⟩
    exacts [busy, free]

theorem Performed.orderInv {s t : State} {e : Event} (h : Performed s e t) (control : ControlInv s)
    (inv : OrderInv s) : OrderInv t := by
  have ⟨_, needsBusy, _⟩ := control
  cases h with
  | reset => exact (orderInv_idle _ rfl rfl).mpr ⟨[], rfl, .nil, nofun⟩
  | accepted w idle =>
    have free : s.inflight = false := by simpa [idle] using needsBusy
    obtain ⟨ps, trace, legal, ended⟩ := (orderInv_idle s idle free).mp inv
    exact (orderInv_busy (s.accept _ _) rfl free).mpr ⟨ps, trace, legal, entryOp _, addr_entryOp _ ▸ microOpAt_addr _,
      mayExtend_entry (isEntry_entryOp _) ended⟩
  | sent m able atOp =>
    obtain ⟨busy, free⟩ := canIssueTxn_eq_true.mp able
    obtain ⟨ps, trace, legal, m₁, same, may⟩ := (orderInv_busy s busy free).mp inv
    obtain rfl : m = m₁ := Option.some.inj (atOp.symm.trans same)
    exact ⟨ps ++ [(m, none)], by simp [trace, labelled], .snoc ps m none legal may, m, atOp, by simp⟩
  | completed m r waits atOp =>
    obtain ⟨ps, trace, legal⟩ := orderInv_answered inv waits atOp (decodeResponse m.kind r)
    exact (completion m r _).orderInv (needsBusy waits) rfl trace legal
  | turnedAway | passed | unsolicited => exact inv

/-- Settles O44: what a completion goes on to or ends with is what the order allows next. -/
theorem everyStepKeepsTheLegalOrder : Obligations.EveryStepKeepsTheLegalOrder := by
  intro s t inv h
  exact step_induction (before := Inv) (fun _ _ _ => id) (fun _ inv => inv.2.2)
    (fun _ _ _ inv p => p.orderInv inv.1 inv.2.2) inv h

/-! ## `Active` means that an `INIT` has succeeded (10_state R37 (e)) -/

theorem resets_of_quiet {s : State} (h : s.pick = none) : resets s = false := by
  simp [resets, h]

theorem resets_of_pick {s u : State} {e : Event} (h : s.pick = some (e, u)) : resets s = decide (e = .reset) := by
  simp [resets, h]

/-- The observer's record after a step that is no `Reset`. -/
def recordAfter (s t : State) (good : Bool) : Bool :=
  if endsIn s t then decide (t.status = .ok) && (good || decide (t.cmd = .init)) else good

/-- A step that leaves `busy` as it is leaves the record as it is. -/
theorem activeInv_record {s t : State} {good : Bool} (same : t.busy = s.busy) (inv : ActiveInv t good) :
    ActiveInv t (recordAfter s t good) := by
  simpa [recordAfter, endsIn, same] using inv

theorem dstateAfter_active {m : MicroOp} {d : DState} (h : dstateAfter m d = .active) : m = .i13 ∨ d = .active := by
  unfold dstateAfter at h
  split at h
  · cases h
  · cases h
  · exact .inl rfl
  · exact .inr h

theorem cmd_of_inProgram_i13 {cmd : Cmd} (h : inProgram cmd MicroOp.i13.addr = true) : cmd = .init := by
  revert h
  cases cmd <;> decide

/-- A failure leaves `Active`, a finished command was an `INIT` or started in it, and I13 enters it inside an `INIT`. -/
theorem Completion.activeInv {m : MicroOp} {r : RspWord} {s t : State} (done : Completion m r s t)
    (atOp : s.pc = m.addr) (busy : s.busy = true) (inside : inProgram s.cmd s.pc = true) {good : Bool}
    (inv : ActiveInv s good) : ActiveInv t (recordAfter s t good) := by
  cases done with
  | failed => nofun
  | finished p _ _ same =>
    rw [same]
    intro active _
    by_cases init : s.cmd = .init
    · simp [recordAfter, endsIn, busy, init]
    · simp [recordAfter, endsIn, busy, inv active fun _ => init]
  | polledAgain => exact activeInv_record rfl inv
  | wentOn m' d =>
    refine activeInv_record rfl fun active outside => ?_
    obtain rfl | active := dstateAfter_active active
    · exact absurd (cmd_of_inProgram_i13 (atOp ▸ inside)) (outside busy)
    · exact inv active outside

theorem Performed.activeInv {s t : State} {e : Event} (h : Performed s e t) (control : ControlInv s) {good : Bool}
    (inv : ActiveInv s good) : ActiveInv t (if e = .reset then false else recordAfter s t good) := by
  obtain ⟨_, waits, inside, _⟩ := control
  cases h with
  | reset => nofun
  | accepted w idle =>
    intro active _
    have earlier : good = true := inv active (by simp [idle])
    simp [recordAfter, endsIn, earlier]
  | completed m r inflight atOp =>
    have busy := waits inflight
    exact (completion m r (s.answered _)).activeInv (microOpAt_eq_some.mp atOp) busy (inside busy) inv
  | sent => exact activeInv_record rfl inv
  | turnedAway | passed | unsolicited => exact activeInv_record rfl inv

theorem initGood_of_pick {s u : State} {e : Event} (picked : s.pick = some (e, u)) (t : State) (good : Bool) :
    initGood s t good = if e = .reset then false else recordAfter u t good := by
  have same : u.busy = s.busy := by rw [pick_state picked]
  by_cases reset : e = .reset <;> by_cases ok : t.status = .ok <;>
    simp [initGood, recordAfter, resets_of_pick picked, endsIn, reset, same, ok]

/-- Settles O46: an accepted command starts from an idle block, and a completion is the case above. -/
theorem everyStepKeepsActiveMeansInitSucceeded : Obligations.EveryStepKeepsActiveMeansInitSucceeded := by
  intro s t good control inv h
  obtain ⟨quiet, rfl⟩ | ⟨e, u, picked, taken, performed⟩ := step_next h
  · simpa [initGood, resets_of_quiet quiet, endsIn] using inv
  · rw [initGood_of_pick picked]
    exact performed.activeInv (taken ▸ control) (taken ▸ inv)

/-! ## The invariants at reset, and progress -/

/-- Settles O47: an idle block with an empty trace. -/
theorem invariantsHoldAtReset : Obligations.InvariantsHoldAtReset := by
  have control : ControlInv State.reset := ⟨nofun, nofun, nofun, Nat.zero_le _, fun _ _ => Nat.zero_le _⟩
  have trace : TraceInv State.reset := (traceInv_free _ rfl).mpr (List.forall_mem_nil _)
  have order : OrderInv State.reset := (orderInv_idle _ rfl rfl).mpr ⟨[], rfl, .nil, nofun⟩
  exact ⟨⟨control, trace, order⟩, nofun⟩

theorem exists_microOpAt {pc : BitVec 5} (place : pc.toNat ≤ 18) : ∃ m, microOpAt pc = some m :=
  Option.ne_none_iff_exists'.mp fun none => by
    have := microOpAt_eq_none.mp none
    omega

/-- Every event is performed where a micro-op stands at `pc`. -/
theorem perform_total {s : State} (place : s.pc.toNat ≤ 18) (e : Event) : ∃ t, perform e s = .next t := by
  obtain ⟨m, atOp⟩ := exists_microOpAt place
  cases e with
  | reset => exact ⟨_, perform_reset s⟩
  | issue w => exact ⟨_, perform_issue w s⟩
  | txnIssue =>
    cases able : s.canIssueTxn with
    | true => exact ⟨_, perform_txnIssue_send able atOp⟩
    | false => exact ⟨_, perform_txnIssue_pass able⟩
  | txnComplete r =>
    cases waits : s.inflight with
    | true => exact ⟨_, txnComplete_answer r waits atOp⟩
    | false => exact ⟨_, txnComplete_drop r waits⟩

/-- Settles O48: `pc` holds a micro-op, and taking an event leaves `pc` as it is. -/
theorem machineNeverStops : Obligations.MachineNeverStops := by
  intro s inv
  obtain ⟨_, _, _, place, _⟩ := inv
  cases picked : s.pick with
  | none => exact ⟨s, by simp [step, picked]⟩
  | some next =>
    obtain ⟨e, u⟩ := next
    have samePc : u.pc = s.pc := by rw [pick_state picked]
    rw [step_of_pick picked]
    exact perform_total (samePc ▸ place) e

end Sys2Proof.Machine

/-! # 70_reset_and_hazards: the hazards of the chip in a legal trace -/

namespace Sys2Proof.Safety

open Sys2Proof Sys2Proof.Machine

/-- Micro-op `m` may be the next transaction after a list that is in the legal order. -/
def StandsAfter (c : Config) (ps : List (MicroOp × Option Response)) (m : MicroOp) : Prop :=
  LegalOrder c ps ∧ MayExtend c ps m

/-- Each transaction of a legal order stands after those before it. -/
theorem LegalOrder.standsAfter {c : Config} {before after : List (MicroOp × Option Response)} {m : MicroOp}
    {r : Option Response} (legal : LegalOrder c (before ++ (m, r) :: after)) : StandsAfter c before m := by
  induction after using List.reverseRecOn with
  | nil => exact legalOrder_concat.mp legal
  | append_singleton after p ih =>
    rw [← List.cons_append, ← List.append_assoc] at legal
    exact ih (legalOrder_concat.mp legal).1

/-- Before a micro-op that starts no command stands the one that the command goes on from. -/
theorem StandsAfter.predecessor {c : Config} {ps : List (MicroOp × Option Response)} {m : MicroOp}
    (h : StandsAfter c ps m) (inner : isEntry m = false) :
    ∃ start p r, ps = start ++ [(p, some r)] ∧ GoesOn c p r m ∧ StandsAfter c start p := by
  obtain ⟨legal, may⟩ := h
  induction ps using List.reverseRecOn with
  | nil => exact absurd may (by simp [MayExtend, inner])
  | append_singleton start q =>
    obtain ⟨p, answer⟩ := q
    obtain ⟨r, rfl, next | ⟨-, starts⟩⟩ := mayExtend_concat.mp may
    · exact ⟨start, p, r, rfl, next, legalOrder_concat.mp legal⟩
    · simp [inner] at starts

theorem addr_injective {m m' : MicroOp} (h : m.addr = m'.addr) : m = m' :=
  Option.some.inj (by rw [← microOpAt_addr m, h, microOpAt_addr])

/-- A command goes on at the next place, but for the poll. -/
theorem goesOn_place {c : Config} {p m : MicroOp} {r : Response} (next : GoesOn c p r m) (notPoll : m ≠ .i2p) :
    m.addr = p.addr + 1 := by
  cases p with
  | i2p =>
    cases r with
    | okByte b =>
      obtain ⟨-, rfl⟩ | ⟨-, rfl⟩ := ite_prop_iff_or.mp (goesOn_i2p.mp next)
      · rfl
      · exact absurd rfl notPoll
    | _ => exact next.elim
  | i1 =>
    cases r with
    | okByte b =>
      obtain ⟨-, rfl⟩ := next
      rfl
    | _ => exact next.elim
  | _ => cases r <;> simp_all [GoesOn, MicroOp.addr]

/-- After a write a command goes on only if it was answered. -/
theorem goesOn_write {c : Config} {p m : MicroOp} {r : Response} (next : GoesOn c p r m) (writes : p.kind = .wr) :
    r = .okWrite := by
  cases r with
  | okWrite => rfl
  | _ => cases p <;> simp [GoesOn, MicroOp.kind] at next writes

theorem goesOn_read {c : Config} {p m : MicroOp} {r : Response} (next : GoesOn c p r m) (reads : p.kind = .rd) :
    ∃ b, r = .okByte b := by
  cases r with
  | okByte b => exact ⟨b, rfl⟩
  | _ => cases p <;> simp [GoesOn, MicroOp.kind] at next reads

/-- `m'` stands in the ROM after the write `m`, and neither starts a command nor is the poll: a command comes to it only
from that write. -/
abbrev NextWrite (m m' : MicroOp) : Prop :=
  m.kind = .wr ∧ m'.addr = m.addr + 1 ∧ isEntry m' = false ∧ m' ≠ .i2p

theorem StandsAfter.write {c : Config} {ps : List (MicroOp × Option Response)} {m m' : MicroOp}
    (h : StandsAfter c ps m') (adjacent : NextWrite m m') :
    ∃ start, ps = start ++ [(m, some .okWrite)] ∧ StandsAfter c start m := by
  obtain ⟨writes, place, inner, notPoll⟩ := adjacent
  obtain ⟨start, p, r, rfl, next, stands⟩ := h.predecessor inner
  obtain rfl : p = m := addr_injective (add_right_cancel ((goesOn_place next notPoll).symm.trans place))
  obtain rfl := goesOn_write next writes
  exact ⟨start, rfl, stands⟩

/-- Writes that follow each other in the ROM stand directly before the last of them. -/
theorem StandsAfter.writes {c : Config} {ms : List MicroOp} {m first : MicroOp}
    {before : List (MicroOp × Option Response)} (h : StandsAfter c before m)
    (chain : (first :: ms ++ [m]).IsChain NextWrite) :
    ∃ start, before = start ++ (first :: ms).map (·, some .okWrite) ∧ StandsAfter c start first := by
  induction ms using List.reverseRecOn generalizing m before with
  | nil => exact h.write (by simpa using chain)
  | append_singleton ms p ih =>
    have ⟨chain', last⟩ : (first :: ms ++ [p]).IsChain NextWrite ∧ NextWrite p m := by
      simpa [List.isChain_append] using chain
    obtain ⟨start, rfl, stands⟩ := h.write last
    obtain ⟨start', rfl, stands'⟩ := ih stands chain'
    exact ⟨start', by simp, stands'⟩

/-! ## What stands directly before each micro-op -/

/-- Before I3 stands the poll read that shows the bit clear (70_reset_and_hazards R223). -/
theorem StandsAfter.i3 {c : Config} {before : List (MicroOp × Option Response)} (h : StandsAfter c before .i3) :
    ∃ b, b &&& c.bReset = 0 ∧ ComesAfter before [(.i2p, some (.okByte b))] := by
  obtain ⟨start, p, r, rfl, next, -⟩ := h.predecessor rfl
  obtain rfl : p = .i2p := addr_injective (add_right_cancel (goesOn_place next nofun).symm)
  obtain ⟨b, rfl⟩ := goesOn_read next rfl
  have clear : b &&& c.bReset = 0 := by
    by_contra set
    cases (if_neg set).mp (goesOn_i2p.mp next)
  exact ⟨b, clear, start, rfl⟩

/-- The whole configuration before the activation (70_reset_and_hazards R221, R222). -/
theorem StandsAfter.i13 {c : Config} {before : List (MicroOp × Option Response)} (h : StandsAfter c before .i13) :
    HazardsKept c before .i13 := by
  obtain ⟨start, p, r, rfl, next, atI12⟩ := h.predecessor rfl
  obtain rfl : p = .i12 := addr_injective (add_right_cancel (goesOn_place next nofun).symm)
  obtain ⟨d, rfl⟩ := goesOn_read next rfl
  obtain ⟨start, rfl, atI3⟩ := atI12.writes (first := .i3) (ms := [.i4, .i5, .i6, .i7, .i8, .i9, .i10, .i11])
    (by decide)
  obtain ⟨b, clear, start, rfl⟩ := atI3.i3
  exact ⟨b, d, clear, start, by simp⟩

theorem StandsAfter.hazardsKept {c : Config} {before : List (MicroOp × Option Response)} {m : MicroOp}
    (h : StandsAfter c before m) : HazardsKept c before m := by
  have after {first : MicroOp} (ms : List MicroOp) (chain : (first :: ms ++ [m]).IsChain NextWrite) :
      ComesAfter before ((first :: ms).map (·, some .okWrite)) :=
    (h.writes chain).imp fun _ found => found.1
  cases m with
  | a2 => exact after (first := .a1) [] (by decide)
  | i3 => exact h.i3
  | i6 => exact after (first := .i5) [] (by decide)
  | i7 => exact after (first := .i5) [.i6] (by decide)
  | i8 => exact after (first := .i5) [.i6, .i7] (by decide)
  | i13 => exact h.i13
  | _ => trivial

/-- Settles O45: every transaction of a legal order stands after what the order demands before it. -/
theorem legalOrderKeepsTheHazards : Obligations.LegalOrderKeepsTheHazards := by
  intro s inv
  obtain ⟨ps, trace, legal, -⟩ := inv
  refine ⟨ps, trace, fun before m r after whole => ?_⟩
  subst whole
  exact legal.standsAfter.hazardsKept

end Sys2Proof.Safety

/-! # 10_state: a step runs what it decodes, and the seven instructions complete -/

namespace Sys2Proof.Machine

open Sys2Proof.Safety

/-! ## The next event -/

theorem pick_of_arbitrary {s : State} {n : Nat} (h : s.schedule = []) (hr : s.thereafter = .arbitrary n) :
    s.pick = some (Config.freeEvent n, s.withArbitrary (n + 1)) := by
  simp [State.pick, h, hr]

theorem pick_of_nothing {s : State} (h : s.schedule = []) (hr : s.thereafter = .repeating []) :
    s.pick = if s.canIssueTxn then some (.txnIssue, s) else none := by
  simp [State.pick, h, hr]

/-- Settles O8: in each order of events the command word is the event picked. -/
theorem stepRunsTheDecodedCommand : Obligations.StepRunsTheDecodedCommand := by
  intro s w
  refine ⟨fun rest h => ?_, fun rest h hr => ?_, fun u picked => ?_, fun n h hr => ?_⟩
  · exact step_of_schedule h
  · exact step_of_repeating h hr
  · exact step_of_pick picked
  · exact step_of_pick (pick_of_arbitrary h hr)

theorem runMicroOp_of_fetch {s : State} {q : ReqWord} {i : Instr} (able : s.canIssueTxn = true)
    (fetched : fetchRequest s = some q) (decoded : decodeRequest q = .ok i) : runMicroOp s = exec i s := by
  simp [runMicroOp, able, fetched, decoded]

/-- Settles O9: the block's turn fetches, decodes and executes, whether it is presented or the block's own. -/
theorem stepRunsTheDecodedRequest : Obligations.StepRunsTheDecodedRequest := by
  intro s q i busy free fetched decoded
  have able : s.canIssueTxn = true := canIssueTxn_eq_true.mpr ⟨busy, free⟩
  refine ⟨fun rest h => ?_, fun rest h hr => ?_, fun h hr => ?_⟩
  · exact (step_of_schedule h).trans (runMicroOp_of_fetch (s := s.withSchedule rest) able fetched decoded)
  · exact (step_of_repeating h hr).trans (runMicroOp_of_fetch (s := s.withSchedule rest) able fetched decoded)
  · have own : s.pick = some (.txnIssue, s) := by rw [pick_of_nothing h hr, if_pos able]
    exact (step_of_pick own).trans (runMicroOp_of_fetch able fetched decoded)

/-- Settles O10: no micro-op stands at `pc`, so there is none to issue and none to complete. -/
theorem placesPastTheRomHoldNoMicroOp : Obligations.PlacesPastTheRomHoldNoMicroOp := by
  intro s rest past busy
  have noOp : microOpAt s.pc = none := microOpAt_eq_none.mpr past
  refine ⟨fun free h => ?_, fun r waits h => ?_⟩
  · have able : (s.withSchedule rest).canIssueTxn = true := canIssueTxn_eq_true.mpr ⟨busy, free⟩
    exact (step_of_schedule h).trans (runMicroOp_none able noOp)
  · rw [step_of_schedule h]
    simp [perform, txnComplete, waits, noOp]

/-! ## The instructions -/

/-- Settles O11: an idle block accepts a command at the command's entry point. -/
theorem idleBlockAcceptsEveryCommand : Obligations.IdleBlockAcceptsEveryCommand := by
  intro s g idle
  have accepted (c : Cmd) : exec (c.instr g) s = .next (s.accept c g) := by
    simp [exec_instr, presentCommand_eq, idle]
  exact ⟨accepted .init, accepted .rdtsrc, accepted .getacc, accepted .getori⟩

/-- Settles O12: a request goes out when a command is in flight and nothing is outstanding. -/
theorem freeTransportTakesEveryRequest : Obligations.FreeTransportTakesEveryRequest := by
  intro s dev reg wdata busy free
  have sent (q : Request) : issueRequest q s = .next (s.send q) := by
    rw [issueRequest_eq, if_pos (canIssueTxn_eq_true.mpr ⟨busy, free⟩)]
  exact ⟨sent _, sent _, sent _⟩

/-- Settles O13: the next state is the state itself, or the state with the command accepted. -/
theorem commandsLeaveTheRestUnchanged : Obligations.CommandsLeaveTheRestUnchanged := by
  intro s t c g h
  rw [exec_instr, presentCommand_eq] at h
  obtain rfl := Host.Outcome.next.inj h
  split <;> simp

/-- Settles O14: the next state is the state itself, or the state with the request of the instruction sent. -/
theorem requestsLeaveTheRestUnchanged : Obligations.RequestsLeaveTheRestUnchanged := by
  intro s t dev reg wdata i primitive h
  have issued : ∃ q : Request, encode i = .txn q.word ∧ exec i s = issueRequest q s := by
    obtain rfl | rfl | rfl := primitive <;> exact ⟨_, rfl, rfl⟩
  obtain ⟨q, word, executes⟩ := issued
  rw [executes, issueRequest_eq] at h
  obtain rfl := Host.Outcome.next.inj h
  split
  · simpa using word
  · simp

/-! ## Reset values, and events that are not enabled -/

/-- Settles O38: the configuration at reset is a lawful one with the two stated defaults. -/
theorem resetStateHoldsTheStatedValues : Obligations.ResetStateHoldsTheStatedValues := by
  have lawful : Config.atReset.wf = true := by
    have built := Config.lawful_wf Config.built
    simp only [Config.wf, Bool.and_eq_true] at built ⊢
    obtain ⟨⟨⟨addrs, block⟩, reset⟩, -⟩ := built
    exact ⟨⟨⟨addrs, block⟩, reset⟩, rfl⟩
  exact ⟨rfl, rfl, rfl, rfl, rfl, rfl, rfl, rfl, rfl, rfl, lawful⟩

theorem perform_disabled {s : State} {e : Event} (disabled : s.enables e = false) : perform e s = .next s := by
  cases e with
  | reset => cases disabled
  | issue w =>
    have busy : s.busy = true := by simpa [State.enables] using disabled
    rw [perform_issue, busy]
    rfl
  | txnIssue => exact perform_txnIssue_pass disabled
  | txnComplete r => exact txnComplete_drop r disabled

theorem enables_pick {s u : State} {e : Event} (picked : s.pick = some (e, u)) (e' : Event) :
    u.enables e' = s.enables e' := by
  rw [pick_state picked]
  cases e' <;> rfl

/-- Settles O41: performing a disabled event does nothing in the state without it. -/
theorem disabledEventsChangeNothing : Obligations.DisabledEventsChangeNothing := by
  intro s u e picked disabled
  have performed : perform e u = .next u := perform_disabled ((enables_pick picked e).trans disabled)
  exact ⟨(step_of_pick picked).trans performed, pick_state picked⟩

end Sys2Proof.Machine

/-! # 10_state: what writes the driver state, the payload and the result flags -/

namespace Sys2Proof.Machine

open Sys2Proof.Safety

/-! ## The result registers -/

/-- The registers that hold results: driver state, result code and payload (10_state R27 to R34). -/
structure Results where
  dstate : DState
  status : Status
  sample : Sample
  diag : Byte
  resByte : Byte
  resX : Numerator
  resY : Numerator
  resZ : Numerator
  unit : Bool

def State.results (s : State) : Results :=
  ⟨s.dstate, s.status, s.sample, s.diag, s.resByte, s.resX, s.resY, s.resZ, s.unit⟩

/-- The event that comes next answers with `r` the transaction of `m` in flight. -/
def Answers (s : State) (m : MicroOp) (r : RspWord) : Prop :=
  s.inflight = true ∧ s.pc = m.addr ∧ ∃ u, s.pick = some (.txnComplete r, u)

theorem Answers.inflight {s : State} {m : MicroOp} {r : RspWord} (h : Answers s m r) : s.inflight = true := h.1

theorem Answers.answeredOk {s : State} {m : MicroOp} {r : RspWord} (h : Answers s m r) (ok : rspErr r = false) :
    AnsweredOk s m.addr := by
  obtain ⟨waits, atOp, u, picked⟩ := h
  exact ⟨waits, atOp, r, u, picked, ok⟩

/-- The step leaves `busy` and `done`, or accepts a command. -/
def FlagsKept (s t : State) : Prop :=
  (t.busy = s.busy ∧ t.done = s.done) ∨ (s.busy = false ∧ t.busy = true)

theorem Performed.results {s t : State} {e : Event} (h : Performed s e t) :
    (e = .reset ∧ t.dstate = .uninitialized) ∨
    (∃ m r, e = .txnComplete r ∧ s.inflight = true ∧ s.pc = m.addr ∧
      Completion m r (s.answered (decodeResponse m.kind r)) t) ∨
    (t.results = s.results ∧ FlagsKept s t) := by
  cases h with
  | reset => exact .inl ⟨rfl, rfl⟩
  | completed m r waits atOp => exact .inr (.inl ⟨m, r, rfl, waits, microOpAt_eq_some.mp atOp, completion m r _⟩)
  | accepted w idle => exact .inr (.inr ⟨rfl, .inr ⟨idle, rfl⟩⟩)
  | sent => exact .inr (.inr ⟨rfl, .inl ⟨rfl, rfl⟩⟩)
  | turnedAway | passed | unsolicited => exact .inr (.inr ⟨rfl, .inl ⟨rfl, rfl⟩⟩)

/-- Only a `Reset` and a completion (of a state `v` with the answer recorded) write results. -/
theorem step_results {s t : State} (h : step s = .next t) :
    (resets s = true ∧ t.dstate = .uninitialized) ∨
    (∃ m r v, Answers s m r ∧ v.results = s.results ∧ v.busy = s.busy ∧ v.done = s.done ∧ Completion m r v t) ∨
    (t.results = s.results ∧ FlagsKept s t) := by
  obtain ⟨-, rfl⟩ | ⟨e, u, picked, taken, performed⟩ := step_next h
  · exact .inr (.inr ⟨rfl, .inl ⟨rfl, rfl⟩⟩)
  obtain ⟨rfl, cleared⟩ | ⟨m, r, rfl, waits, atOp, done⟩ | ⟨same, flags⟩ := performed.results
  · exact .inl ⟨resets_of_pick picked, cleared⟩
  · have answers : Answers s m r := by
      rw [taken] at waits atOp
      exact ⟨waits, atOp, u, picked⟩
    refine .inr (.inl ⟨m, r, _, answers, ?_, ?_, ?_, done⟩) <;> rw [taken] <;> rfl
  · rw [taken] at same flags
    exact .inr (.inr ⟨same, flags⟩)

/-! ## The driver state (10_state R27) -/

/-- A failure clears the driver state; a success that changes it is one of three writes. -/
theorem Completion.dstate {m : MicroOp} {r : RspWord} {s t : State} (done : Completion m r s t)
    (changed : t.dstate ≠ s.dstate) :
    (t.dstate = .uninitialized ∧ t.busy = false ∧ t.status ≠ .ok) ∨
    (rspErr r = false ∧ (m = .i2w ∧ t.dstate = .resetting ∨ m = .i11 ∧ t.dstate = .configured ∨
      m = .i13 ∧ t.dstate = .active)) := by
  cases done with
  | failed c bad => exact .inl ⟨rfl, rfl, bad⟩
  | finished p _ _ same => exact absurd (by rw [same]; rfl) changed
  | polledAgain => exact absurd rfl changed
  | wentOn m' d ok =>
    refine .inr ⟨ok, ?_⟩
    cases m with
    | i2w => exact .inl ⟨rfl, rfl⟩
    | i11 => exact .inr (.inl ⟨rfl, rfl⟩)
    | i13 => exact .inr (.inr ⟨rfl, rfl⟩)
    | _ => exact absurd rfl changed

/-- Settles O50: a change is a `Reset`'s or a completion's, which fails or is one of the three writes. -/
theorem driverStateIsWrittenOnlyAsStated : Obligations.DriverStateIsWrittenOnlyAsStated := by
  intro s t control h changed
  obtain ⟨_, needsBusy, _⟩ := control
  obtain ⟨reset, cleared⟩ | ⟨m, r, v, answers, before, busy, -, done⟩ | ⟨same, -⟩ := step_results h
  · simp [reset, cleared]
  · have here : v.dstate = s.dstate := congrArg Results.dstate before
    have inFlight : s.busy = true := needsBusy answers.inflight
    obtain ⟨cleared, idle, bad⟩ | ⟨ok, ⟨rfl, is⟩ | ⟨rfl, is⟩ | ⟨rfl, is⟩⟩ := done.dstate (here ▸ changed)
    · simp [cleared, bad, endsIn, inFlight, idle]
    · rw [is]
      exact ⟨fun _ => answers.answeredOk ok, nofun, nofun, nofun⟩
    · rw [is]
      exact ⟨nofun, fun _ => answers.answeredOk ok, nofun, nofun⟩
    · rw [is]
      exact ⟨nofun, nofun, fun _ => answers.answeredOk ok, nofun⟩
  · exact absurd (congrArg Results.dstate same) changed

/-! ## The payload (10_state R30 to R34) -/

/-- Which success stores in which payload register. -/
theorem Completion.payload {m : MicroOp} {r : RspWord} {s t : State} (done : Completion m r s t) :
    (t.diag ≠ s.diag → m = .i12 ∧ rspErr r = false) ∧
    (t.resByte ≠ s.resByte → (m = .t1 ∨ m = .o1) ∧ rspErr r = false) ∧
    (t.sample ≠ s.sample ∨ t.resX ≠ s.resX ∨ t.resY ≠ s.resY ∨ t.resZ ≠ s.resZ ∨ t.unit ≠ s.unit →
      m = .a2 ∧ rspErr r = false) := by
  cases done with
  | failed => simp
  | polledAgain => simp
  | wentOn m' d ok _ _ stores => simpa [ok] using stores
  | finished p _ ok same byte reading =>
    have diag : p.diag = s.diag := by rw [same]
    refine ⟨absurd diag, fun changed => ⟨byte changed, ok⟩, fun changed => ⟨?_, ok⟩⟩
    by_contra other
    obtain ⟨sample, resX, resY, resZ, unit⟩ := reading other
    simp [sample, resX, resY, resZ, unit] at changed

/-- Settles O51: the completion that stores in a register is the one named for it, with a success. -/
theorem payloadIsWrittenOnlyAsStated : Obligations.PayloadIsWrittenOnlyAsStated := by
  intro s t h noReset
  obtain ⟨reset, -⟩ | ⟨m, r, v, answers, before, -, -, done⟩ | ⟨same, -⟩ := step_results h
  · simp [reset] at noReset
  · obtain ⟨diag, byte, reading⟩ := done.payload
    simp only [State.results, Results.mk.injEq] at before
    obtain ⟨-, -, sample₀, diag₀, byte₀, x₀, y₀, z₀, unit₀⟩ := before
    rw [sample₀, x₀, y₀, z₀, unit₀] at reading
    refine ⟨fun changed => ?_, fun changed => ?_, fun changed => ?_⟩
    · obtain ⟨rfl, ok⟩ := diag (diag₀ ▸ changed)
      exact answers.answeredOk ok
    · obtain ⟨rfl | rfl, ok⟩ := byte (byte₀ ▸ changed)
      · exact .inl (answers.answeredOk ok)
      · exact .inr (answers.answeredOk ok)
    · obtain ⟨rfl, ok⟩ := reading changed
      exact answers.answeredOk ok
  · simp_all [State.results]

/-! ## The result flags (10_state R21, R22, R28) -/

/-- A completion ends the command and sets `done`, or leaves the command's flags as they are. -/
theorem Completion.flags {m : MicroOp} {r : RspWord} {s t : State} (done : Completion m r s t) :
    (t.busy = false ∧ t.done = true) ∨ (t.busy = s.busy ∧ t.done = s.done ∧ t.status = s.status) := by
  cases done with
  | failed => exact .inl ⟨rfl, rfl⟩
  | finished => exact .inl ⟨rfl, rfl⟩
  | polledAgain => exact .inr ⟨rfl, rfl, rfl⟩
  | wentOn => exact .inr ⟨rfl, rfl, rfl⟩

/-- Settles O52: a command ends only by a completion, and only an accepted command clears `done`. -/
theorem resultFlagsChangeOnlyAtCommandEnds : Obligations.ResultFlagsChangeOnlyAtCommandEnds := by
  intro s t control h noReset
  obtain ⟨_, needsBusy, _⟩ := control
  obtain ⟨reset, -⟩ | ⟨m, r, v, answers, before, busy, done, ends⟩ | ⟨same, flags⟩ := step_results h
  · simp [reset] at noReset
  · have inFlight := needsBusy answers.inflight
    obtain ⟨idle, ended⟩ | ⟨goesOn, kept, status⟩ := ends.flags
    · simp [endsIn, inFlight, idle, ended]
    · have code : v.status = s.status := congrArg Results.status before
      simp [endsIn, goesOn, busy, kept, done, status, code]
  · have code : t.status = s.status := congrArg Results.status same
    obtain ⟨kept, done⟩ | ⟨idle, accepted⟩ := flags
    · simp [endsIn, kept, done, code]
    · simp [endsIn, idle, accepted, code]

end Sys2Proof.Machine

/-! # 60_exceptions: neither the driver state nor an earlier result gates a transaction -/

namespace Sys2Proof.Machine

open Sys2Proof.Safety

/-- The state with the control of `s` and the results, `done` and free-value counter of `x`. -/
def State.withResultsOf (s x : State) : State :=
  { s with
    done := x.done, dstate := x.dstate, status := x.status, sample := x.sample, diag := x.diag, resByte := x.resByte,
    resX := x.resX, resY := x.resY, resZ := x.resZ, unit := x.unit, freeCount := x.freeCount }

theorem sameControl_iff {s s' : State} : SameControl s s' ↔ s' = s.withResultsOf s' := by
  obtain ⟨⟩ := s
  obtain ⟨⟩ := s'
  simp [SameControl, State.withResultsOf, eq_comm]

theorem sameControl_withResultsOf (s x : State) : SameControl s (s.withResultsOf x) :=
  ⟨rfl, rfl, rfl, rfl, rfl, rfl, rfl, rfl, rfl, rfl⟩

/-- A success acts alike on two states of the same control. -/
theorem completeOk_sameControl (m : MicroOp) (r : RspWord) (s x : State) :
    SameControl (completeOk m r s) (completeOk m r (s.withResultsOf x)) := by
  cases m with
  | i1 =>
    simp only [completeOk, completeI1]
    split <;> exact ⟨rfl, rfl, rfl, rfl, rfl, rfl, rfl, rfl, rfl, rfl⟩
  | i2p =>
    have same : (s.withResultsOf x).cfg = s.cfg ∧ (s.withResultsOf x).pollCount = s.pollCount := ⟨rfl, rfl⟩
    simp only [completeOk, completeI2P, same]
    split
    · exact sameControl_withResultsOf (s.goto 3) x
    · split <;> exact ⟨rfl, rfl, rfl, rfl, rfl, rfl, rfl, rfl, rfl, rfl⟩
  | _ => exact ⟨rfl, rfl, rfl, rfl, rfl, rfl, rfl, rfl, rfl, rfl⟩

theorem completeMicroOp_sameControl (m : MicroOp) (r : RspWord) (s x : State) :
    SameControl (completeMicroOp m r s) (completeMicroOp m r (s.withResultsOf x)) := by
  cases answer : rspErr r with
  | false =>
    rw [completeMicroOp_ok answer, completeMicroOp_ok answer]
    exact completeOk_sameControl m r s x
  | true =>
    rw [completeMicroOp_err answer, completeMicroOp_err answer]
    exact ⟨rfl, rfl, rfl, rfl, rfl, rfl, rfl, rfl, rfl, rfl⟩

/-- Each event acts alike on two states of the same control. -/
theorem Performed.sameControl {s t : State} {e : Event} (h : Performed s e t) (x : State) :
    ∃ t', perform e (s.withResultsOf x) = .next t' ∧ SameControl t t' := by
  cases h with
  | reset => exact ⟨_, perform_reset _, rfl, rfl, rfl, rfl, rfl, rfl, rfl, rfl, rfl, rfl⟩
  | accepted w idle =>
    have idle' : (s.withResultsOf x).busy = false := idle
    rw [perform_issue, idle']
    exact ⟨_, rfl, rfl, rfl, rfl, rfl, rfl, rfl, rfl, rfl, rfl, rfl⟩
  | sent m able atOp =>
    exact ⟨_, perform_txnIssue_send (s := s.withResultsOf x) able atOp,
      rfl, rfl, rfl, rfl, rfl, rfl, rfl, rfl, rfl, rfl⟩
  | completed m r waits atOp =>
    exact ⟨_, txnComplete_answer (s := s.withResultsOf x) r waits atOp, completeMicroOp_sameControl m r _ x⟩
  | turnedAway w busy => exact ⟨_, perform_disabled (congrArg not busy), sameControl_withResultsOf s x⟩
  | passed unable => exact ⟨_, perform_disabled unable, sameControl_withResultsOf s x⟩
  | unsolicited r free => exact ⟨_, perform_disabled free, sameControl_withResultsOf s x⟩

/-- What comes next is decided by the control and the record of what is to come. -/
theorem pick_withResultsOf (s x : State) :
    (s.withResultsOf x).pick = s.pick.map (Prod.map id (State.withResultsOf · x)) := by
  have same : (s.withResultsOf x).schedule = s.schedule ∧ (s.withResultsOf x).thereafter = s.thereafter ∧
      (s.withResultsOf x).canIssueTxn = s.canIssueTxn := ⟨rfl, rfl, rfl⟩
  simp only [State.pick, same]
  repeat' split
  all_goals rfl

/-- Settles O53: the same event comes next and is performed alike. -/
theorem driverStateNeverGatesATransaction : Obligations.DriverStateNeverGatesATransaction := by
  intro s s' t same h
  rw [sameControl_iff.mp same]
  obtain ⟨quiet, rfl⟩ | ⟨e, u, picked, -, performed⟩ := step_next h
  · have quiet' : (t.withResultsOf s').pick = none := by rw [pick_withResultsOf, quiet]; rfl
    exact ⟨_, by rw [step, quiet'], sameControl_withResultsOf t s'⟩
  · have picked' : (s.withResultsOf s').pick = some (e, u.withResultsOf s') := by
      rw [pick_withResultsOf, picked]; rfl
    rw [step_of_pick picked']
    exact performed.sameControl s'

end Sys2Proof.Machine

/-! # 44_unpack_scale: the other forms of the unpacker, its round trip, and the exact product -/

namespace Sys2Proof.Machine

/-! ## The unpacker -/

theorem unpack14_range (msb lsb : Byte) : -8192 ≤ unpack14 msb lsb ∧ unpack14 msb lsb ≤ 8191 := by
  have low : -8192 ≤ (raw14 msb lsb).toInt := BitVec.le_toInt _
  have high : (raw14 msb lsb).toInt < 8192 := BitVec.toInt_lt
  rw [unpack14_eq_toInt]
  omega

/-- The signed 16-bit pair over 4, rounded down (44_unpack_scale R163 (a)). -/
theorem unpack14_eq_div (msb lsb : Byte) : unpack14 msb lsb = (msb ++ lsb).toInt / 4 := by
  have low := lsb.isLt
  have pair : (msb ++ lsb).toNat = 256 * msb.toNat + lsb.toNat := by
    rw [BitVec.toNat_append, ← Nat.shiftLeft_add_eq_or_of_lt low, Nat.shiftLeft_eq]
    omega
  rw [unpack14_eq, BitVec.toInt_eq_toNat_cond, pair]
  split <;> split <;> omega

/-- The signed high byte and the upper six bits of the low one (44_unpack_scale R163 (c)). -/
theorem unpack14_eq_high_add_low (msb lsb : Byte) :
    unpack14 msb lsb = 64 * msb.toInt + ((lsb.extractLsb' 2 6).toNat : Int) := by
  have low := lsb.isLt
  have bits : (lsb.extractLsb' 2 6).toNat = lsb.toNat / 4 := by
    rw [BitVec.extractLsb'_toNat, Nat.shiftRight_eq_div_pow]
    omega
  rw [unpack14_eq, BitVec.toInt_eq_toNat_cond, bits]
  split <;> split <;> omega

/-- Settles O55: each form reads the same fourteen bits. -/
theorem unpackerHasThreeEquivalentForms : Obligations.UnpackerHasThreeEquivalentForms := by
  intro msb lsb
  refine ⟨unpack14_eq_div msb lsb, fun n wide => ?_, unpack14_eq_high_add_low msb lsb⟩
  rw [BitVec.toInt_signExtend_of_le wide, unpack14_eq_toInt, raw14_eq_append]

/-- The bytes of a count assemble to its fourteen bits (44_unpack_scale R165). -/
theorem raw14_encode14 (v : Int) : raw14 (encode14 v).1 (encode14 v).2 = BitVec.ofInt 14 v := by
  have low : ((BitVec.ofInt 14 v).extractLsb' 0 6 ++ (0 : BitVec 2)).extractLsb' 2 6 =
      (BitVec.ofInt 14 v).extractLsb' 0 6 := by
    rw [BitVec.extractLsb'_append_eq_of_le (by omega)]
    simp
  rw [raw14_eq_append]
  simp only [encode14]
  rw [low, BitVec.extractLsb'_append_extractLsb'_eq_extractLsb' (by rfl)]
  simp

theorem unpack14_encode14 {v : Int} (low : -8192 ≤ v) (high : v ≤ 8191) :
    unpack14 (encode14 v).1 (encode14 v).2 = v := by
  rw [unpack14_eq_toInt, raw14_encode14, BitVec.toInt_ofInt, Int.bmod_def]
  split <;> omega

/-- The mask clears the two reserved bits of the low byte (44_unpack_scale R164). -/
theorem and_mask_eq_append (lsb : Byte) : lsb &&& 0xFC = lsb.extractLsb' 2 6 ++ (0 : BitVec 2) := by
  revert lsb
  decide

theorem encode14_unpack14 (msb lsb : Byte) : encode14 (unpack14 msb lsb) = (msb, lsb &&& 0xFC) := by
  have high : (msb ++ lsb.extractLsb' 2 6).extractLsb' 6 8 = msb := by
    rw [BitVec.extractLsb'_append_eq_of_le (by omega)]
    simp
  have low : (msb ++ lsb.extractLsb' 2 6).extractLsb' 0 6 = lsb.extractLsb' 2 6 := by
    rw [BitVec.extractLsb'_append_eq_of_add_le (by omega)]
    simp
  simp only [encode14, unpack14_eq_toInt, BitVec.ofInt_toInt, raw14_eq_append]
  rw [high, low, and_mask_eq_append]

/-- The two reserved bits do not reach the result (44_unpack_scale R164). -/
theorem unpack14_mask (msb lsb : Byte) : unpack14 msb (lsb &&& 0xFC) = unpack14 msb lsb := by
  have kept : (lsb &&& 0xFC).extractLsb' 2 6 = lsb.extractLsb' 2 6 := by
    rw [and_mask_eq_append, BitVec.extractLsb'_append_eq_of_le (by omega)]
    simp
  rw [unpack14_eq_toInt, raw14_eq_append, kept, ← raw14_eq_append, unpack14_eq_toInt]

/-- Settles O56: the two inverse laws give the preimages of a count. -/
theorem unpackerRoundTrip : Obligations.UnpackerRoundTrip := by
  refine ⟨fun v => unpack14_encode14, encode14_unpack14, fun v low high msb lsb => ⟨?_, ?_⟩⟩
  · rintro rfl
    simp [encode14_unpack14]
  · rintro ⟨rfl, masked⟩
    rw [← unpack14_mask, masked]
    exact unpack14_encode14 low high

/-! ## The scaler -/

theorem scaleFactor_pos (u : Bool) : (0 : Int) < scaleFactor u := by
  cases u <;> decide

theorem scale_eq_zero {s : Int} {u : Bool} : scale s u = 0 ↔ s = 0 := by
  rw [scale, mul_eq_zero, or_iff_left (scaleFactor_pos u).ne']

/-- Settles O59: the scaler multiplies by a positive factor. -/
theorem scalerKeepsZeroSignAndOrder : Obligations.ScalerKeepsZeroSignAndOrder := by
  intro s s' u
  exact ⟨scale_eq_zero, neg_mul _ _, (mul_lt_mul_iff_left₀ (scaleFactor_pos u)).symm⟩

theorem scale_range {s : Int} (u : Bool) (low : -8192 ≤ s) (high : s ≤ 8191) :
    -8033525760 ≤ scale s u ∧ scale s u ≤ 8032545105 := by
  rw [scale_eq]
  split <;> omega

/-- A width that holds the least product is at least 34 (44_unpack_scale R169). -/
theorem width_ge_34 {w : Nat} (holds : (BitVec.ofInt w (-8033525760)).toInt = -8033525760) : 34 ≤ w := by
  by_contra narrow
  have least : -(2 ^ (w - 1) : Int) ≤ -8033525760 := holds ▸ BitVec.le_toInt _
  have bound : (2 : Int) ^ (w - 1) ≤ 2 ^ 32 := pow_le_pow_right₀ (by decide) (by omega)
  omega

/-- Settles O57: the products of the extreme counts bound all others and need the 34 bits. -/
theorem scaledNumeratorIsExact : Obligations.ScaledNumeratorIsExact := by
  have least : scale (-8192) false = -8033525760 := rfl
  refine ⟨fun s u low high => ⟨?_, scale_range u low high⟩, least, rfl, rfl, rfl, fun w holds => ?_⟩
  · rw [numeratorOf_scale s u low high, scale_eq]
  · exact width_ge_34 (least ▸ holds (-8192) false (by decide) (by decide))

theorem unpack14_eq_zero {msb lsb : Byte} : unpack14 msb lsb = 0 ↔ msb = 0 ∧ lsb.toNat ≤ 3 := by
  have high := msb.isLt
  rw [unpack14_eq, BitVec.toNat_eq]
  split <;> simp <;> omega

/-- Settles O60: the register is 0 exactly when the product is, and the product exactly when the count is. -/
theorem zeroBytesGiveExactlyZero : Obligations.ZeroBytesGiveExactlyZero := by
  intro msb lsb u
  obtain ⟨low, high⟩ := unpack14_range msb lsb
  calc axisResult msb lsb u = 0
      ↔ (numeratorOf (scale (unpack14 msb lsb) u)).toInt = 0 := by
        rw [axisResult, ← BitVec.toInt_inj]; rfl
    _ ↔ unpack14 msb lsb = 0 := by rw [numeratorOf_scale _ u low high, scale_eq_zero]
    _ ↔ msb = 0 ∧ lsb.toNat ≤ 3 := unpack14_eq_zero

end Sys2Proof.Machine

/-! # 70_reset_and_hazards: the poll with and without a limit, the bound of every command, and waiting -/

namespace Sys2Proof.Safety

open Sys2Proof Sys2Proof.Machine

/-! ## The poll with a limit (41_init R120) -/

theorem iterate_pollCounted_of_some {c : Config} {n : Nat} (limit : c.pollLimit = some n) (k count : Nat) :
    (pollCounted c)^[k] count = count + k := by
  have counts : pollCounted c = Nat.succ := funext (pollCounted_of_some limit)
  rw [counts, Nat.succ_iterate]

theorem iterate_pollCounted_of_none {c : Config} (unlimited : c.pollLimit = none) (k count : Nat) :
    (pollCounted c)^[k] count = count := by
  have keeps : pollCounted c = id := funext (pollCounted_of_none unlimited)
  rw [keeps, Function.iterate_id, id]

/-- Pending polls below the limit are counted, and the block stays at the poll. -/
theorem run_limitedPolls {s : State} {n : Nat} {polls : List RspWord} {rest : List Event} (busy : s.busy = true)
    (free : s.inflight = false) (atPoll : s.pc = 2) (limit : s.cfg.pollLimit = some n)
    (pending : ∀ p ∈ polls, ShowsResetPending s.cfg p) (room : s.pollCount + polls.length < n)
    (hs : s.schedule = answering polls ++ rest) :
    run (2 * polls.length) s = .next { s with
      pollCount := s.pollCount + polls.length
      trace := s.trace ++ polls.map (entryOf s.cfg .i2p)
      schedule := rest } := by
  rw [run_polls busy free atPoll pending (by simpa [limit] using room) hs, iterate_pollCounted_of_some limit]

/-- The poll read that a limit allows last, with the bit still set, ends the command (60_exceptions R188). -/
theorem run_lastPoll {s : State} {n : Nat} {r : RspWord} {rest : List Event} (h : OnTurn s 2 r rest)
    (pending : ShowsResetPending s.cfg r) (limit : s.cfg.pollLimit = some n) (last : n ≤ s.pollCount + 1) :
    run 2 s = .next { s with
      status := .protocolTimeout
      busy := false
      done := true
      dstate := .uninitialized
      inflight := false
      trace := s.trace ++ [entryOf s.cfg .i2p r]
      schedule := rest } := by
  obtain ⟨ok, set⟩ := pending
  obtain ⟨-, -, -, timeout⟩ := pollReadTestsTheResetBit s r rest h ok
  rw [timeout n set limit last, entryOf_read s.cfg rfl ok]
  rfl

/-- Settles O31: the reads before the last are counted, and the last one is at the limit. -/
theorem boundedPollTimesOutAtTheLimit : Obligations.BoundedPollTimesOutAtTheLimit := by
  intro s n polls rest busy free atPoll limit pending hs
  refine ⟨fun room => run_limitedPolls busy free atPoll limit pending room hs, fun below reached => ?_⟩
  obtain rfl | ⟨earlier, last, rfl⟩ := polls.eq_nil_or_concat'
  · exact absurd reached below.ne
  rw [List.length_append, List.length_singleton] at *
  have counted := run_limitedPolls (polls := earlier) (rest := answering [last] ++ rest) busy free atPoll limit
    (fun p hp => pending p (by simp [hp])) (by omega) (by rw [hs, answering_append, List.append_assoc])
  have whole := run_trans counted (run_lastPoll ⟨busy, free, atPoll, rfl⟩ (pending last (by simp)) limit
    (show n ≤ s.pollCount + earlier.length + 1 by omega))
  have count : s.pollCount + earlier.length = n - 1 := by omega
  rw [count] at whole
  simpa [Nat.mul_add, free] using whole

/-! ## The poll without a limit (70_reset_and_hazards R226, R233 (b)) -/

/-- Pending polls without a limit leave the block at the poll, and only the trace grows. -/
theorem run_unlimitedPolls {s : State} {polls : List RspWord} {rest : List Event} (busy : s.busy = true)
    (free : s.inflight = false) (atPoll : s.pc = 2) (unlimited : s.cfg.pollLimit = none)
    (pending : ∀ p ∈ polls, ShowsResetPending s.cfg p) (hs : s.schedule = answering polls ++ rest) :
    run (2 * polls.length) s = .next { s with
      trace := s.trace ++ polls.map (entryOf s.cfg .i2p)
      schedule := rest } := by
  rw [run_polls busy free atPoll pending (by simp [unlimited]) hs, iterate_pollCounted_of_none unlimited]

theorem answering_ne_nil {rs : List RspWord} (nonempty : rs ≠ []) : answering rs ≠ [] := by
  obtain ⟨r, rs, rfl⟩ := List.exists_cons_of_ne_nil nonempty
  exact List.cons_ne_nil _ _

/-- Rounds of pending polls leave the block at the poll, with that many rounds of reads in the trace. -/
theorem run_pollRounds {s : State} {polls : List RspWord} (h : PollsForEver s polls) (k : Nat) :
    run (k * (2 * polls.length)) s = .next { s with
      trace := s.trace ++ (List.replicate k (polls.map (entryOf s.cfg .i2p))).flatten } := by
  induction k generalizing s with
  | zero => simp [run]
  | succ k ih =>
    have ⟨busy, free, atPoll, unlimited, nonempty, pending, used, repeats⟩ := h
    have positive : 0 < polls.length := List.length_pos_of_ne_nil nonempty
    have round : run (2 * polls.length) s = .next { s with
        trace := s.trace ++ polls.map (entryOf s.cfg .i2p)
        schedule := [] } := by
      rw [run_round used repeats (answering_ne_nil nonempty) (by omega)]
      exact run_unlimitedPolls (s := s.withSchedule _) busy free atPoll unlimited pending (by simp)
    have rounds := ih (s := { s with trace := s.trace ++ polls.map (entryOf s.cfg .i2p), schedule := [] })
      ⟨busy, free, atPoll, unlimited, nonempty, pending, rfl, repeats⟩
    rw [Nat.succ_mul, Nat.add_comm, run_trans round rounds]
    simp [List.replicate_succ, used]

/-- A state on the way of an endless poll from `s`: at the poll, with only pending answers to come. -/
structure Polling (s : State) (polls : List RspWord) (t : State) : Prop where
  busy : t.busy = true
  atPoll : t.pc = 2
  done : t.done = s.done
  status : t.status = s.status
  cfg : t.cfg = s.cfg
  repeats : t.thereafter = .repeating (answering polls)
  ahead : ∃ rs, (∀ r ∈ rs, ShowsResetPending s.cfg r) ∧
    (t.inflight = false ∧ t.schedule = answering rs ∨
      t.inflight = true ∧ ∃ r, ShowsResetPending s.cfg r ∧ t.schedule = .txnComplete r :: answering rs)

/-- With nothing in flight at an endless poll the block's turn comes next, and then a pending answer. -/
theorem Polling.step_eq {s t : State} {polls rs : List RspWord} (h : Polling s polls t) (nonempty : polls ≠ [])
    (pending : ∀ p ∈ polls, ShowsResetPending s.cfg p) (pending' : ∀ r ∈ rs, ShowsResetPending s.cfg r)
    (hs : t.schedule = answering rs) :
    ∃ r rs', (∀ p ∈ r :: rs', ShowsResetPending s.cfg p) ∧
      step t = perform .txnIssue (t.withSchedule (.txnComplete r :: answering rs')) := by
  cases rs with
  | cons r rs => exact ⟨r, rs, pending', step_of_schedule hs⟩
  | nil =>
    obtain ⟨p, ps, rfl⟩ := List.exists_cons_of_ne_nil nonempty
    exact ⟨p, ps, pending, step_of_repeating hs h.repeats⟩

theorem Polling.step {s t : State} {polls : List RspWord} (h : Polling s polls t) (nonempty : polls ≠ [])
    (unlimited : s.cfg.pollLimit = none) (pending : ∀ p ∈ polls, ShowsResetPending s.cfg p) :
    ∃ t', Machine.step t = .next t' ∧ Polling s polls t' := by
  have atOp : microOpAt t.pc = .some .i2p := by rw [h.atPoll]; rfl
  obtain ⟨rs, pending', ⟨free, hs⟩ | ⟨waits, r, ⟨ok, set⟩, hs⟩⟩ := h.ahead
  · obtain ⟨r, rs', pending', taken⟩ := h.step_eq nonempty pending pending' hs
    have sent := perform_txnIssue_send (s := t.withSchedule (.txnComplete r :: answering rs'))
      (canIssueTxn_eq_true.mpr ⟨h.busy, free⟩) atOp
    obtain ⟨first, others⟩ := List.forall_mem_cons.mp pending'
    exact ⟨_, taken.trans sent, ⟨h.busy, h.atPoll, h.done, h.status, h.cfg, h.repeats, rs', others,
      .inr ⟨rfl, r, first, rfl⟩⟩⟩
  · have answered := txnComplete_answer (s := t.withSchedule (answering rs)) r waits atOp
    have stays := completeI2P_pending
      (s := (t.withSchedule (answering rs)).answered (decodeResponse MicroOp.i2p.kind r)) h.atPoll (h.cfg ▸ set)
      (by simp [h.cfg, unlimited])
    rw [completeMicroOp_ok ok, completeOk, stays] at answered
    exact ⟨_, (step_of_schedule hs).trans answered, ⟨h.busy, h.atPoll, h.done, h.status, h.cfg, h.repeats, rs,
      pending', .inl ⟨rfl, rfl⟩⟩⟩

theorem run_polling {s t : State} {polls : List RspWord} (h : Polling s polls t) (nonempty : polls ≠ [])
    (unlimited : s.cfg.pollLimit = none) (pending : ∀ p ∈ polls, ShowsResetPending s.cfg p) (n : Nat) :
    ∃ t', run n t = .next t' ∧ Polling s polls t' := by
  induction n generalizing t with
  | zero => exact ⟨t, rfl, h⟩
  | succ n ih =>
    obtain ⟨u, first, polling⟩ := h.step nonempty unlimited pending
    simpa [run, first] using ih polling

theorem PollsForEver.polling {s : State} {polls : List RspWord} (h : PollsForEver s polls) : Polling s polls s := by
  obtain ⟨busy, free, atPoll, -, -, -, used, repeats⟩ := h
  exact ⟨busy, atPoll, rfl, rfl, rfl, repeats, [], by simp, .inl ⟨free, used⟩⟩

/-- Settles O32: the rounds add up, each single step keeps the block at the poll, and an admitted `INIT` comes to it. -/
theorem unboundedPollNeverEnds : Obligations.UnboundedPollNeverEnds := by
  refine ⟨fun s polls rest => run_unlimitedPolls, fun s polls h => ⟨run_pollRounds h, fun n => ?_⟩, ?_⟩
  · have ⟨_, _, _, unlimited, nonempty, pending, _⟩ := h
    obtain ⟨t, reached, polling⟩ := run_polling h.polling nonempty unlimited pending n
    exact ⟨t, reached, polling.busy, polling.atPoll, polling.done, polling.status⟩
  · intro s g idR wrR polls idle free unlimited okId known okWr nonempty pending hs repeats k
    have atPoll := run_trans (run_command idle hs)
      (run_identityThenReset (rest := []) rfl free rfl okId known okWr (by simp))
    have rounds := run_pollRounds (polls := polls) (s := { s with
      busy := true
      done := false
      inflight := false
      cmd := .init
      useG := g
      pc := 2
      pollCount := 0
      dstate := .resetting
      trace := s.trace ++ [entryOf s.cfg .i1 idR, entryOf s.cfg .i2w wrR]
      schedule := [] }) ⟨rfl, rfl, rfl, unlimited, nonempty, pending, rfl, repeats⟩ k
    simpa [free] using run_trans atPoll rounds

/-! ## The bound of every command (70_reset_and_hazards R232) -/

/-- With a poll limit `n` and the poll counter at `count`, a bound on the transactions a command still issues from a
place. -/
def turnsLeft (n count : Nat) (pc : BitVec 5) : Nat :=
  if pc.toNat < 2 then 14 + n - pc.toNat
  else if pc.toNat = 2 then 13 + (n - 1 - count)
  else if pc.toNat < 15 then 15 - pc.toNat
  else 19 - pc.toNat

theorem turnsLeft_pos (n count : Nat) (m : MicroOp) : 0 < turnsLeft n count m.addr := by
  have place := addr_le m
  unfold turnsLeft
  split_ifs <;> omega

theorem turnsLeft_entry {n : Nat} (positive : 0 < n) (c : Cmd) : turnsLeft n 0 (entry c) ≤ 14 + n := by
  cases c <;> simp [turnsLeft, entry] <;> omega

/-- The next place of a command has fewer transactions left. -/
theorem turnsLeft_next {n count count' : Nat} {m m' : MicroOp} (positive : 0 < n) (notFinal : isFinal m = false)
    (place : m'.addr.toNat = m.addr.toNat + 1) : turnsLeft n count' m'.addr < turnsLeft n count m.addr := by
  have notLast : m.addr.toNat ≠ 14 := by
    intro last
    obtain rfl : m = .i14 := addr_injective (BitVec.eq_of_toNat_eq last)
    cases notFinal
  have inRom := addr_le m'
  unfold turnsLeft
  split_ifs <;> omega

/-- A completion ends the command or leaves it fewer transactions. -/
theorem completion_progress {m : MicroOp} {r : RspWord} {s t : State} {n : Nat} (done : Completion m r s t)
    (limit : s.cfg.pollLimit = some n) (positive : 0 < n) :
    (t.busy = false ∧ t.done = true) ∨ (t.busy = s.busy ∧ ∃ m' : MicroOp, t.pc = m'.addr ∧
      turnsLeft n t.pollCount t.pc < turnsLeft n s.pollCount m.addr) := by
  cases done with
  | failed => exact .inl ⟨rfl, rfl⟩
  | finished => exact .inl ⟨rfl, rfl⟩
  | polledAgain here _ room =>
    obtain rfl := here
    have below := pollLimitReached_eq_false.mp room n limit
    refine .inr ⟨rfl, .i2p, rfl, ?_⟩
    rw [pollCounted_of_some limit]
    simp [turnsLeft, MicroOp.addr]
    omega
  | wentOn m' _ _ next place => exact .inr ⟨rfl, m', rfl, turnsLeft_next positive (not_isFinal_of_goesOn next) place⟩

/-- With enough answers to come a command in flight ends, with one transaction for each answer taken. -/
theorem run_untilEnded {s : State} {m : MicroOp} {n : Nat} {rs : List RspWord} (busy : s.busy = true)
    (free : s.inflight = false) (atOp : s.pc = m.addr) (limit : s.cfg.pollLimit = some n) (positive : 0 < n)
    (enough : turnsLeft n s.pollCount s.pc ≤ rs.length) (hs : s.schedule = answering rs) :
    ∃ k t, 0 < k ∧ k ≤ rs.length ∧ run (2 * k) s = .next t ∧ t.busy = false ∧ t.done = true ∧
      t.trace.length = s.trace.length + k := by
  induction rs generalizing s m with
  | nil => exact absurd (turnsLeft_pos n s.pollCount m) (by simpa [atOp] using enough)
  | cons r rs ih =>
    have turn := run_turn (m := m) (rest := answering rs) ⟨busy, free, atOp, hs⟩
    obtain ⟨idle, ended⟩ | ⟨goesOn, m', place, fewer⟩ := completion_progress (completion m r { s with
      inflight := false
      trace := s.trace ++ [⟨m.request s.cfg, some (decodeResponse m.kind r)⟩]
      schedule := answering rs }) limit positive
    · exact ⟨1, _, by simp, by simp, turn, idle, ended, by simp⟩
    · have left : turnsLeft n s.pollCount m.addr ≤ rs.length + 1 := atOp ▸ enough
      obtain ⟨k, t, -, within, rest, idle, ended, trace⟩ := ih (goesOn.trans busy) (by simp) place
        (by simpa using limit) (Nat.le_of_lt_succ (fewer.trans_le left)) (by simp)
      refine ⟨k + 1, t, k.succ_pos, Nat.succ_le_succ within, ?_, idle, ended, ?_⟩
      · rw [Nat.mul_succ, Nat.add_comm]
        exact run_trans turn rest
      · simp [trace]
        omega

/-- Settles O37: an accepted command has at most `14 + n` transactions left. -/
theorem everyCommandEndsWithinItsBound : Obligations.EveryCommandEndsWithinItsBound := by
  intro s w n rs idle free limit positive count hs
  have accepted : run 1 s = .next ((s.withSchedule (answering rs)).accept (Cmd.ofCode (w.extractLsb' 0 2))
      (w.getLsbD 2)) := by
    simp [run, step_of_schedule hs, perform_issue, idle]
  obtain ⟨k, t, some, within, rest, ends⟩ := run_untilEnded
    (s := (s.withSchedule (answering rs)).accept (Cmd.ofCode (w.extractLsb' 0 2)) (w.getLsbD 2)) rfl free
    (addr_entryOp _).symm limit positive (count ▸ turnsLeft_entry positive _) rfl
  exact ⟨k, t, some, count ▸ within, run_trans accepted rest, ends⟩

/-! ## Waiting (70_reset_and_hazards R216, R233 (a)) -/

theorem run_of_step_self {s : State} (h : step s = .next s) (n : Nat) : run n s = .next s := by
  induction n with
  | zero => rfl
  | succ n ih => simpa [run, h] using ih

theorem step_of_nothing {s : State} (used : s.schedule = []) (quiet : s.thereafter = .repeating [])
    (unable : s.canIssueTxn = false) : step s = .next s := by
  simp [step, pick_of_nothing used quiet, unable]

/-- A waiting block takes what a silent transport leaves to come, and does nothing else. -/
theorem step_silent {s : State} (busy : s.busy = true) (waits : s.inflight = true) (silent : TransportSilent s) :
    ∃ rest, step s = .next (s.withSchedule rest) ∧ TransportSilent (s.withSchedule rest) := by
  have ignored {e : Event} (h : e = .txnIssue ∨ ∃ w, e = .issue w) (rest : List Event) :
      perform e (s.withSchedule rest) = .next (s.withSchedule rest) := by
    apply perform_disabled
    obtain rfl | ⟨w, rfl⟩ := h <;> simp [State.enables, busy, waits]
  obtain ⟨now, es, repeats, later⟩ := silent
  cases hs : s.schedule with
  | cons e rest =>
    obtain ⟨first, others⟩ := List.forall_mem_cons.mp (hs ▸ now)
    exact ⟨rest, (step_of_schedule hs).trans (ignored first rest), others, es, repeats, later⟩
  | nil =>
    cases es with
    | nil =>
      have unable : s.canIssueTxn = false := canIssueTxn_eq_false.mpr (.inr waits)
      exact ⟨s.schedule, step_of_nothing hs repeats unable, now, [], repeats, later⟩
    | cons e rest =>
      obtain ⟨first, others⟩ := List.forall_mem_cons.mp later
      exact ⟨rest, (step_of_repeating hs repeats).trans (ignored first rest), others, _, repeats, later⟩

theorem run_silent {s : State} (busy : s.busy = true) (waits : s.inflight = true) (silent : TransportSilent s)
    (n : Nat) : ∃ rest, run n s = .next (s.withSchedule rest) := by
  induction n generalizing s with
  | zero => exact ⟨s.schedule, rfl⟩
  | succ n ih =>
    obtain ⟨rest, taken, silent'⟩ := step_silent busy waits silent
    obtain ⟨rest', others⟩ := ih (s := s.withSchedule rest) busy waits silent'
    simp only [run, taken]
    exact ⟨rest', others⟩

/-- Settles O40: with nothing to come nobody moves, and commands and turns are not enabled while the block waits. -/
theorem nothingMovesWithoutAnEvent : Obligations.NothingMovesWithoutAnEvent := by
  intro s n
  refine ⟨fun used quiet still => ?_, fun busy waits silent => run_silent busy waits silent n⟩
  exact run_of_step_self (step_of_nothing used quiet (canIssueTxn_eq_false.mpr still.symm)) n

end Sys2Proof.Safety
